-- ==== Sys2Proof/Word.lean ====
section
/-! DEFINITION. The words of the machine: bytes, 16-bit immediates, 32-bit registers, 128-bit vector
registers (spec/00_scope.md R8, R9, R10). -/

namespace Sys2Proof

/-- A byte of the bytecode or of data memory (00_scope.md R9). -/
abbrev Byte := BitVec 8

/-- The imm16 field of formats F and G (30_encoding.md R128, R129). -/
abbrev Half := BitVec 16

/-- XLEN = FLEN = 32: an integer or float register, a data word (00_scope.md R8). -/
abbrev Word := BitVec 32

/-- VLEN = 128: a vector register (00_scope.md R8). -/
abbrev VWord := BitVec 128

/-- `u32(v)`: the unsigned reading of a register value (00_scope.md R10). -/
abbrev u32 (v : Word) : Nat := v.toNat

/-- `s32(v)`: the two's-complement reading of a register value (00_scope.md R10). -/
abbrev s32 (v : Word) : Int := v.toInt

/-- `wrap32(n)`: the 32-bit pattern of `n` modulo 2^32 (00_scope.md R10). -/
abbrev wrap32 (n : Int) : Word := BitVec.ofInt 32 n

end Sys2Proof
end

