-- ==== Sys2Proof/Config.lean ====
section
/-! DEFINITION. What one VM instance fixes (the parameters of spec/00_scope.md R8 that are plain data, with the
defaults of that rule), the constants of the machine, and the values the spec leaves free: constants with no body, of
which nothing can be proved but their type. -/

namespace Sys2Proof

/-- IMM16_ORDER (30_encoding.md R131; 92_eei_decisions.md D1; log 19). -/
inductive ByteOrder where
  /-- The byte at the lower address holds bits 7..0: the default. -/
  | little
  /-- `HI_FIRST`: the byte at the lower address holds bits 15..8. -/
  | hiFirst
  deriving DecidableEq, Repr

/-- DIV_MODE (42_integer_arithmetic.md R254, R255; 92_eei_decisions.md D14; log 43). -/
inductive DivMode where
  /-- Quotient toward zero, remainder with the sign of the dividend: the default. -/
  | trunc
  /-- Quotient toward minus infinity, remainder with the sign of the divisor. -/
  | floor
  deriving DecidableEq, Repr

/-- NREG (10_state.md R31; 92_eei_decisions.md D2; log 20). -/
inductive RegCount where
  /-- The 64-register unified encoding: the default. -/
  | full64
  /-- A model restricted to Level 1. -/
  | level1
  deriving DecidableEq, Repr

/-- How many registers an operand byte may name. -/
def RegCount.count : RegCount → Nat
  | .full64 => 64
  | .level1 => 16

/-- FLAG_BIT: the bit of CLF's imm8 that selects each flag (10_state.md R51; 92_eei_decisions.md D27; log 32). The spec gives
the default alone and no range for another value: that any of the eight bits may be named, bits 7 to 4 and one bit for two
flags among them, is the model's (DESIGN CHOICE, log 32). -/
structure FlagBits where
  z : Fin 8
  s : Fin 8
  c : Fin 8
  o : Fin 8
  deriving DecidableEq, Repr

/-- EPSILON: the open parameter of the C_DIV confidence rule, `0 < EPSILON < 1` (48_confidence_a2a.md R511). -/
structure Epsilon where
  val : Rat
  pos : 0 < val
  ltOne : val < 1
  deriving DecidableEq, Repr

/-- Which admissible CONF the run has (48_confidence_a2a.md R511; log 10). -/
inductive ConfParam where
  /-- Any admissible CONF: only the laws of R511 are known of `mul`, `divloss` and `ofByte`. -/
  | anyAdmissible
  /-- The instantiation R511 recommends: exact rationals, with this EPSILON. -/
  | exactRationals (epsilon : Epsilon)
  deriving DecidableEq, Repr

/-- Which CRC32_FN the run has (47_extmath_collection.md R468; log 11). -/
inductive Crc32Param where
  /-- Any function from byte strings to 32-bit values. -/
  | anyFunction
  /-- The common reflected CRC-32 that R468 recommends. -/
  | common
  deriving DecidableEq, Repr

/-- The parameters of a run that are plain data (00_scope.md R8; log 1). -/
structure Params where
  nreg : RegCount
  imm16Order : ByteOrder
  divMode : DivMode
  maxCycles : Nat
  flagBit : FlagBits
  conf : ConfParam
  crc32 : Crc32Param
  deriving DecidableEq, Repr

/-- The defaults of 00_scope.md R8; where R8 gives none (CONF, CRC32_FN), any admissible one. -/
def Params.default : Params where
  nreg := .full64
  imm16Order := .little
  divMode := .trunc
  maxCycles := 10000000
  flagBit := ⟨0, 1, 2, 3⟩
  conf := .anyAdmissible
  crc32 := .anyFunction

namespace Config

/-- MEM_SIZE: the bytes of the linear data memory (00_scope.md R8; 20_memory.md R81; log 3). -/
def memSize : Nat := 65536

/-- STACK_TOP: the initial SP, one past the last byte of the stack region (00_scope.md R8; 20_memory.md R91). -/
def stackTop : Nat := 65536

/-- STACK_SIZE and HEAP_SIZE: the size of each default region (00_scope.md R8; 20_memory.md R80). -/
def regionSize : Nat := 65536

/-- The longest instruction, in bytes (30_encoding.md R120). -/
def maxLength : Nat := 5

/-! ### Draws: the n-th value the spec calls `any` (00_scope.md R11; log 8) -/

/-- A drawn Z flag (10_state.md R49; 47_extmath_collection.md R459, R466). -/
opaque anyZ : Nat → Bool
/-- A drawn S flag (10_state.md R49). -/
opaque anyS : Nat → Bool
/-- A drawn C flag (10_state.md R47, R49). -/
opaque anyC : Nat → Bool
/-- A drawn O flag (10_state.md R47, R49). -/
opaque anyO : Nat → Bool
/-- A drawn 32-bit value: CTZ of 0, RND (47_extmath_collection.md R466, R470). -/
opaque anyWord : Nat → Word
/-- A drawn confidence for cell `i` after RESET; 64 stands for `cacc` (40_system_control.md R176). -/
opaque anyConf : Nat → Nat → Rat

/-! ### FNUM where the laws of 43_float_memory_control.md R291 leave it open (log 9) -/

opaque fadd : Word → Word → Word
opaque fsub : Word → Word → Word
opaque fmul : Word → Word → Word
opaque fdiv : Word → Word → Word
opaque fmin : Word → Word → Word
opaque fmax : Word → Word → Word
opaque fmod : Word → Word → Word
opaque fsqrt : Word → Word
opaque fsin : Word → Word
opaque fcos : Word → Word
opaque fofInt : Word → Word
/-- `FNUM.toInt` of a finite, non-integral pattern (43_float_memory_control.md R298). -/
opaque ftoInt : Word → Word

/-! ### CONF and CRC32_FN where nothing but their laws is known (log 10, log 11) -/

/-- `CONF.mul` before the laws of 48_confidence_a2a.md R511 bound it. -/
opaque confMul : Rat → Rat → Rat
/-- `CONF.divloss` before the laws of 48_confidence_a2a.md R511 bound it. -/
opaque confDivloss : Rat → Rat → Rat
/-- The step of `CONF.ofByte` at each byte before the laws of 48_confidence_a2a.md R511 bound it. -/
opaque confByte : Nat → Rat
/-- CRC32_FN (47_extmath_collection.md R468). -/
opaque crc32 : List Byte → Word

end Config

end Sys2Proof
end

