-- ==== Sys2Proof/Syntax.lean ====
section
/-! DEFINITION. The instructions: one constructor per row of spec/opcode_table.json, in opcode order
(30_encoding.md R140, R150). Operands are the raw operand bytes of the encoding (30_encoding.md R123 to R129):
a register number stays a byte, because every byte decodes and an unusable one is refused when the instruction
runs (30_encoding.md R134, R154; log 44); `ign` is a byte the spec calls ignored or unused (R135); imm16 is the
assembled 16-bit field (R131). -/

namespace Sys2Proof

/-- The 256 opcode slots of FLUX ISA v1.0 (00_scope.md R3). -/
inductive Instr where
  -- System control and interrupt/debug, 0x00..0x07 (Format A)
  /-- HALT, 0x00: R170. -/
  | halt
  /-- NOP, 0x01: R171. -/
  | nop
  /-- RET, 0x02: R172. -/
  | ret
  /-- IRET, 0x03: R173. -/
  | iret
  /-- BRK, 0x04: R174. -/
  | brk
  /-- WFI, 0x05: R175. -/
  | wfi
  /-- RESET, 0x06: R176. -/
  | reset
  /-- SYN, 0x07: R177. -/
  | syn
  -- Single register, 0x08..0x0F (Format B)
  /-- INC, 0x08: R210. -/
  | inc (rd : Byte)
  /-- DEC, 0x09: R211. -/
  | dec (rd : Byte)
  /-- NOT, 0x0A: R212. -/
  | not (rd : Byte)
  /-- NEG, 0x0B: R213. -/
  | neg (rd : Byte)
  /-- PUSH, 0x0C: R214. -/
  | push (rd : Byte)
  /-- POP, 0x0D: R215. -/
  | pop (rd : Byte)
  /-- CONF_LD, 0x0E: R216. -/
  | confLd (rd : Byte)
  /-- CONF_ST, 0x0F: R217. -/
  | confSt (rd : Byte)
  -- Immediate, 0x10..0x17 (Format C)
  /-- SYS, 0x10: R220. -/
  | sys (imm8 : Byte)
  /-- TRAP, 0x11: R221. -/
  | trap (imm8 : Byte)
  /-- DBG, 0x12: R222. -/
  | dbg (imm8 : Byte)
  /-- CLF, 0x13: R223. -/
  | clf (imm8 : Byte)
  /-- SEMA, 0x14: R224. -/
  | sema (imm8 : Byte)
  /-- YIELD, 0x15: R225. -/
  | yield (imm8 : Byte)
  /-- CACHE, 0x16: R226. -/
  | cache (imm8 : Byte)
  /-- STRIPCF, 0x17: R227. -/
  | stripcf (imm8 : Byte)
  -- Register + imm8, 0x18..0x1F (Format D)
  /-- MOVI, 0x18: R230. -/
  | movi (rd imm8 : Byte)
  /-- ADDI, 0x19: R231. -/
  | addi (rd imm8 : Byte)
  /-- SUBI, 0x1A: R232. -/
  | subi (rd imm8 : Byte)
  /-- ANDI, 0x1B: R233. -/
  | andi (rd imm8 : Byte)
  /-- ORI, 0x1C: R234. -/
  | ori (rd imm8 : Byte)
  /-- XORI, 0x1D: R235. -/
  | xori (rd imm8 : Byte)
  /-- SHLI, 0x1E: R236. -/
  | shli (rd imm8 : Byte)
  /-- SHRI, 0x1F: R237. -/
  | shri (rd imm8 : Byte)
  -- Integer arithmetic, 0x20..0x2F (Format E)
  /-- ADD, 0x20: R251. -/
  | add (rd rs1 rs2 : Byte)
  /-- SUB, 0x21: R252. -/
  | sub (rd rs1 rs2 : Byte)
  /-- MUL, 0x22: R253. -/
  | mul (rd rs1 rs2 : Byte)
  /-- DIV, 0x23: R254. -/
  | div (rd rs1 rs2 : Byte)
  /-- MOD, 0x24: R255. -/
  | mod (rd rs1 rs2 : Byte)
  /-- AND, 0x25: R256. -/
  | and (rd rs1 rs2 : Byte)
  /-- OR, 0x26: R257. -/
  | or (rd rs1 rs2 : Byte)
  /-- XOR, 0x27: R258. -/
  | xor (rd rs1 rs2 : Byte)
  /-- SHL, 0x28: R259. -/
  | shl (rd rs1 rs2 : Byte)
  /-- SHR, 0x29: R260. -/
  | shr (rd rs1 rs2 : Byte)
  /-- MIN, 0x2A: R261. -/
  | min (rd rs1 rs2 : Byte)
  /-- MAX, 0x2B: R262. -/
  | max (rd rs1 rs2 : Byte)
  /-- CMP_EQ, 0x2C: R263. -/
  | cmpEq (rd rs1 rs2 : Byte)
  /-- CMP_LT, 0x2D: R264. -/
  | cmpLt (rd rs1 rs2 : Byte)
  /-- CMP_GT, 0x2E: R265. -/
  | cmpGt (rd rs1 rs2 : Byte)
  /-- CMP_NE, 0x2F: R266. -/
  | cmpNe (rd rs1 rs2 : Byte)
  -- Float, memory, control, 0x30..0x3F (Format E)
  /-- FADD, 0x30: R292. -/
  | fadd (rd rs1 rs2 : Byte)
  /-- FSUB, 0x31: R293. -/
  | fsub (rd rs1 rs2 : Byte)
  /-- FMUL, 0x32: R294. -/
  | fmul (rd rs1 rs2 : Byte)
  /-- FDIV, 0x33: R295. -/
  | fdiv (rd rs1 rs2 : Byte)
  /-- FMIN, 0x34: R296. -/
  | fmin (rd rs1 rs2 : Byte)
  /-- FMAX, 0x35: R297. -/
  | fmax (rd rs1 rs2 : Byte)
  /-- FTOI, 0x36: R298. -/
  | ftoi (rd rs1 ign : Byte)
  /-- ITOF, 0x37: R299. -/
  | itof (rd rs1 ign : Byte)
  /-- LOAD, 0x38: R300. -/
  | load (rd rs1 rs2 : Byte)
  /-- STORE, 0x39: R301. -/
  | store (rd rs1 rs2 : Byte)
  /-- MOV, 0x3A: R302. -/
  | mov (rd rs1 ign : Byte)
  /-- SWP, 0x3B: R303. -/
  | swp (rd rs1 ign : Byte)
  /-- JZ, 0x3C: R304. -/
  | jz (rd rs1 ign : Byte)
  /-- JNZ, 0x3D: R305. -/
  | jnz (rd rs1 ign : Byte)
  /-- JLT, 0x3E: R306. -/
  | jlt (rd rs1 ign : Byte)
  /-- JGT, 0x3F: R307. -/
  | jgt (rd rs1 ign : Byte)
  -- Register + imm16, 0x40..0x47 (Format F)
  /-- MOVI16, 0x40: R330. -/
  | movi16 (rd : Byte) (imm16 : Half)
  /-- ADDI16, 0x41: R331. -/
  | addi16 (rd : Byte) (imm16 : Half)
  /-- SUBI16, 0x42: R332. -/
  | subi16 (rd : Byte) (imm16 : Half)
  /-- JMP, 0x43: R333. -/
  | jmp (ign : Byte) (imm16 : Half)
  /-- JAL, 0x44: R334. -/
  | jal (rd : Byte) (imm16 : Half)
  /-- CALL, 0x45: R335. -/
  | call (rd : Byte) (imm16 : Half)
  /-- LOOP, 0x46: R336. -/
  | loop (rd : Byte) (imm16 : Half)
  /-- SELECT, 0x47: R337. -/
  | select (rd : Byte) (imm16 : Half)
  -- Register + register + imm16, 0x48..0x4F (Format G)
  /-- LOADOFF, 0x48: R340. -/
  | loadoff (rd rs1 : Byte) (imm16 : Half)
  /-- STOREOFF, 0x49: R341. -/
  | storeoff (rd rs1 : Byte) (imm16 : Half)
  /-- LOADI, 0x4A: R342. -/
  | loadi (rd rs1 : Byte) (imm16 : Half)
  /-- STOREI, 0x4B: R343. -/
  | storei (rd rs1 : Byte) (imm16 : Half)
  /-- ENTER, 0x4C: R344. -/
  | enter (rd rs1 : Byte) (imm16 : Half)
  /-- LEAVE, 0x4D: R345. -/
  | leave (rd rs1 : Byte) (imm16 : Half)
  /-- COPY, 0x4E: R346. -/
  | copy (rd rs1 : Byte) (imm16 : Half)
  /-- FILL, 0x4F: R347. -/
  | fill (rd rs1 : Byte) (imm16 : Half)
  -- Agent-to-agent, 0x50..0x5F (Format E)
  /-- TELL, 0x50: R531. -/
  | tell (rd rs1 rs2 : Byte)
  /-- ASK, 0x51: R532. -/
  | ask (rd rs1 rs2 : Byte)
  /-- DELEG, 0x52: R533. -/
  | deleg (rd rs1 rs2 : Byte)
  /-- BCAST, 0x53: R534. -/
  | bcast (rd rs1 rs2 : Byte)
  /-- ACCEPT, 0x54: R535. -/
  | accept (rd rs1 rs2 : Byte)
  /-- DECLINE, 0x55: R536. -/
  | decline (rd rs1 rs2 : Byte)
  /-- REPORT, 0x56: R537. -/
  | report (rd rs1 rs2 : Byte)
  /-- MERGE, 0x57: R538. -/
  | merge (rd rs1 rs2 : Byte)
  /-- FORK, 0x58: R539. -/
  | fork (rd rs1 rs2 : Byte)
  /-- JOIN, 0x59: R540. -/
  | join (rd rs1 rs2 : Byte)
  /-- SIGNAL, 0x5A: R541. -/
  | signal (rd rs1 rs2 : Byte)
  /-- AWAIT, 0x5B: R542. -/
  | await (rd rs1 rs2 : Byte)
  /-- TRUST, 0x5C: R543. -/
  | trust (rd rs1 rs2 : Byte)
  /-- DISCOV, 0x5D: R544. -/
  | discov (rd rs1 rs2 : Byte)
  /-- STATUS, 0x5E: R545. -/
  | status (rd rs1 rs2 : Byte)
  /-- HEARTBT, 0x5F: R546. -/
  | heartbt (rd rs1 rs2 : Byte)
  -- Confidence, 0x60..0x6F (Format E; C_THRESH: D)
  /-- C_ADD, 0x60: R512. -/
  | cAdd (rd rs1 rs2 : Byte)
  /-- C_SUB, 0x61: R513. -/
  | cSub (rd rs1 rs2 : Byte)
  /-- C_MUL, 0x62: R514. -/
  | cMul (rd rs1 rs2 : Byte)
  /-- C_DIV, 0x63: R515. -/
  | cDiv (rd rs1 rs2 : Byte)
  /-- C_FADD, 0x64: R516. -/
  | cFadd (rd rs1 rs2 : Byte)
  /-- C_FSUB, 0x65: R517. -/
  | cFsub (rd rs1 rs2 : Byte)
  /-- C_FMUL, 0x66: R518. -/
  | cFmul (rd rs1 rs2 : Byte)
  /-- C_FDIV, 0x67: R519. -/
  | cFdiv (rd rs1 rs2 : Byte)
  /-- C_MERGE, 0x68: R520. -/
  | cMerge (rd rs1 rs2 : Byte)
  /-- C_THRESH, 0x69: R521. -/
  | cThresh (rd imm8 : Byte)
  /-- C_BOOST, 0x6A: R522. -/
  | cBoost (rd rs1 rs2 : Byte)
  /-- C_DECAY, 0x6B: R523. -/
  | cDecay (rd rs1 rs2 : Byte)
  /-- C_SOURCE, 0x6C: R524. -/
  | cSource (rd rs1 rs2 : Byte)
  /-- C_CALIB, 0x6D: R525. -/
  | cCalib (rd rs1 rs2 : Byte)
  /-- C_EXPLY, 0x6E: R526. -/
  | cExply (rd rs1 rs2 : Byte)
  /-- C_VOTE, 0x6F: R527. -/
  | cVote (rd rs1 rs2 : Byte)
  -- Viewpoint, 0x70..0x7F (Format E)
  /-- V_EVID, 0x70: R420. -/
  | vEvid (rd rs1 rs2 : Byte)
  /-- V_EPIST, 0x71: R421. -/
  | vEpist (rd rs1 rs2 : Byte)
  /-- V_MIR, 0x72: R422. -/
  | vMir (rd rs1 rs2 : Byte)
  /-- V_NEG, 0x73: R423. -/
  | vNeg (rd rs1 rs2 : Byte)
  /-- V_TENSE, 0x74: R424. -/
  | vTense (rd rs1 rs2 : Byte)
  /-- V_ASPEC, 0x75: R425. -/
  | vAspec (rd rs1 rs2 : Byte)
  /-- V_MODAL, 0x76: R426. -/
  | vModal (rd rs1 rs2 : Byte)
  /-- V_POLIT, 0x77: R427. -/
  | vPolit (rd rs1 rs2 : Byte)
  /-- V_HONOR, 0x78: R428. -/
  | vHonor (rd rs1 rs2 : Byte)
  /-- V_TOPIC, 0x79: R429. -/
  | vTopic (rd rs1 rs2 : Byte)
  /-- V_FOCUS, 0x7A: R430. -/
  | vFocus (rd rs1 rs2 : Byte)
  /-- V_CASE, 0x7B: R431. -/
  | vCase (rd rs1 rs2 : Byte)
  /-- V_AGREE, 0x7C: R432. -/
  | vAgree (rd rs1 rs2 : Byte)
  /-- V_CLASS, 0x7D: R433. -/
  | vClass (rd rs1 rs2 : Byte)
  /-- V_INFL, 0x7E: R434. -/
  | vInfl (rd rs1 rs2 : Byte)
  /-- V_PRAGMA, 0x7F: R435. -/
  | vPragma (rd rs1 rs2 : Byte)
  -- Sensor, 0x80..0x8F (Format E)
  /-- SENSE, 0x80: R440. -/
  | sense (rd rs1 rs2 : Byte)
  /-- ACTUATE, 0x81: R441. -/
  | actuate (rd rs1 rs2 : Byte)
  /-- SAMPLE, 0x82: R442. -/
  | sample (rd rs1 rs2 : Byte)
  /-- ENERGY, 0x83: R443. -/
  | energy (rd rs1 rs2 : Byte)
  /-- TEMP, 0x84: R444. -/
  | temp (rd rs1 rs2 : Byte)
  /-- GPS, 0x85: R445. -/
  | gps (rd rs1 rs2 : Byte)
  /-- ACCEL, 0x86: R446. -/
  | accel (rd rs1 rs2 : Byte)
  /-- DEPTH, 0x87: R447. -/
  | depth (rd rs1 rs2 : Byte)
  /-- CAMCAP, 0x88: R448. -/
  | camcap (rd rs1 rs2 : Byte)
  /-- CAMDET, 0x89: R449. -/
  | camdet (rd rs1 rs2 : Byte)
  /-- PWM, 0x8A: R450. -/
  | pwm (rd rs1 rs2 : Byte)
  /-- GPIO, 0x8B: R451. -/
  | gpio (rd rs1 rs2 : Byte)
  /-- I2C, 0x8C: R452. -/
  | i2c (rd rs1 rs2 : Byte)
  /-- SPI, 0x8D: R453. -/
  | spi (rd rs1 rs2 : Byte)
  /-- UART, 0x8E: R454. -/
  | uart (rd rs1 rs2 : Byte)
  /-- CANBUS, 0x8F: R455. -/
  | canbus (rd rs1 rs2 : Byte)
  -- Extended math and crypto, 0x90..0x9F (Format E)
  /-- ABS, 0x90: R460. -/
  | abs (rd rs1 ign : Byte)
  /-- SIGN, 0x91: R461. -/
  | sign (rd rs1 ign : Byte)
  /-- SQRT, 0x92: R462. -/
  | sqrt (rd rs1 ign : Byte)
  /-- POW, 0x93: R463. -/
  | pow (rd rs1 rs2 : Byte)
  /-- LOG2, 0x94: R464. -/
  | log2 (rd rs1 ign : Byte)
  /-- CLZ, 0x95: R465. -/
  | clz (rd rs1 ign : Byte)
  /-- CTZ, 0x96: R466. -/
  | ctz (rd rs1 ign : Byte)
  /-- POPCNT, 0x97: R467. -/
  | popcnt (rd rs1 ign : Byte)
  /-- CRC32, 0x98: R468. -/
  | crc32 (rd rs1 rs2 : Byte)
  /-- SHA256, 0x99: R469. -/
  | sha256 (rd rs1 rs2 : Byte)
  /-- RND, 0x9A: R470. -/
  | rnd (rd rs1 rs2 : Byte)
  /-- SEED, 0x9B: R471. -/
  | seed (rd rs1 ign : Byte)
  /-- FMOD, 0x9C: R472. -/
  | fmod (rd rs1 rs2 : Byte)
  /-- FSQRT, 0x9D: R473. -/
  | fsqrt (rd rs1 ign : Byte)
  /-- FSIN, 0x9E: R474. -/
  | fsin (rd rs1 ign : Byte)
  /-- FCOS, 0x9F: R475. -/
  | fcos (rd rs1 ign : Byte)
  -- Collections and crypto, 0xA0..0xAF (Format E; LEN: D, SLICE: G)
  /-- LEN, 0xA0: R480. -/
  | len (rd imm8 : Byte)
  /-- CONCAT, 0xA1: R481. -/
  | concat (rd rs1 rs2 : Byte)
  /-- AT, 0xA2: R482. -/
  | collAt (rd rs1 rs2 : Byte)
  /-- SETAT, 0xA3: R483. -/
  | setat (rd rs1 rs2 : Byte)
  /-- SLICE, 0xA4: R484. -/
  | slice (rd rs1 : Byte) (imm16 : Half)
  /-- REDUCE, 0xA5: R485. -/
  | reduce (rd rs1 rs2 : Byte)
  /-- MAP, 0xA6: R486. -/
  | map (rd rs1 rs2 : Byte)
  /-- FILTER, 0xA7: R487. -/
  | filter (rd rs1 rs2 : Byte)
  /-- SORT, 0xA8: R488. -/
  | sort (rd rs1 rs2 : Byte)
  /-- FIND, 0xA9: R489. -/
  | find (rd rs1 rs2 : Byte)
  /-- HASH, 0xAA: R490. -/
  | hash (rd rs1 rs2 : Byte)
  /-- HMAC, 0xAB: R491. -/
  | hmac (rd rs1 rs2 : Byte)
  /-- VERIFY, 0xAC: R492. -/
  | verify (rd rs1 rs2 : Byte)
  /-- ENCRYPT, 0xAD: R493. -/
  | encrypt (rd rs1 rs2 : Byte)
  /-- DECRYPT, 0xAE: R494. -/
  | decrypt (rd rs1 rs2 : Byte)
  /-- KEYGEN, 0xAF: R495. -/
  | keygen (rd rs1 rs2 : Byte)
  -- Vector, 0xB0..0xBF (Format E)
  /-- VLOAD, 0xB0: R561. -/
  | vload (rd rs1 rs2 : Byte)
  /-- VSTORE, 0xB1: R562. -/
  | vstore (rd rs1 rs2 : Byte)
  /-- VADD, 0xB2: R563. -/
  | vadd (rd rs1 rs2 : Byte)
  /-- VMUL, 0xB3: R564. -/
  | vmul (rd rs1 rs2 : Byte)
  /-- VDOT, 0xB4: R565. -/
  | vdot (rd rs1 rs2 : Byte)
  /-- VNORM, 0xB5: R566. -/
  | vnorm (rd rs1 rs2 : Byte)
  /-- VSCALE, 0xB6: R567. -/
  | vscale (rd rs1 rs2 : Byte)
  /-- VMAXP, 0xB7: R568. -/
  | vmaxp (rd rs1 rs2 : Byte)
  /-- VMINP, 0xB8: R569. -/
  | vminp (rd rs1 rs2 : Byte)
  /-- VREDUCE, 0xB9: R570. -/
  | vreduce (rd rs1 rs2 : Byte)
  /-- VGATHER, 0xBA: R571. -/
  | vgather (rd rs1 rs2 : Byte)
  /-- VSCATTER, 0xBB: R572. -/
  | vscatter (rd rs1 rs2 : Byte)
  /-- VSHUF, 0xBC: R573. -/
  | vshuf (rd rs1 rs2 : Byte)
  /-- VMERGE, 0xBD: R574. -/
  | vmerge (rd rs1 rs2 : Byte)
  /-- VCONF, 0xBE: R575. -/
  | vconf (rd rs1 rs2 : Byte)
  /-- VSELECT, 0xBF: R576. -/
  | vselect (rd rs1 rs2 : Byte)
  -- Tensor, 0xC0..0xCF (Format E)
  /-- TMATMUL, 0xC0: R581. -/
  | tmatmul (rd rs1 rs2 : Byte)
  /-- TCONV, 0xC1: R582. -/
  | tconv (rd rs1 rs2 : Byte)
  /-- TPOOL, 0xC2: R583. -/
  | tpool (rd rs1 rs2 : Byte)
  /-- TRELU, 0xC3: R584. -/
  | trelu (rd rs1 rs2 : Byte)
  /-- TSIGM, 0xC4: R585. -/
  | tsigm (rd rs1 rs2 : Byte)
  /-- TSOFT, 0xC5: R586. -/
  | tsoft (rd rs1 rs2 : Byte)
  /-- TLOSS, 0xC6: R587. -/
  | tloss (rd rs1 rs2 : Byte)
  /-- TGRAD, 0xC7: R588. -/
  | tgrad (rd rs1 rs2 : Byte)
  /-- TUPDATE, 0xC8: R589. -/
  | tupdate (rd rs1 rs2 : Byte)
  /-- TADAM, 0xC9: R590. -/
  | tadam (rd rs1 rs2 : Byte)
  /-- TEMBED, 0xCA: R591. -/
  | tembed (rd rs1 rs2 : Byte)
  /-- TATTN, 0xCB: R592. -/
  | tattn (rd rs1 rs2 : Byte)
  /-- TSAMPLE, 0xCC: R593. -/
  | tsample (rd rs1 rs2 : Byte)
  /-- TTOKEN, 0xCD: R594. -/
  | ttoken (rd rs1 rs2 : Byte)
  /-- TDETOK, 0xCE: R595. -/
  | tdetok (rd rs1 rs2 : Byte)
  /-- TQUANT, 0xCF: R596. -/
  | tquant (rd rs1 rs2 : Byte)
  -- Extended memory and I/O, 0xD0..0xDF (Format G)
  /-- DMA_CPY, 0xD0: R390. -/
  | dmaCpy (rd rs1 : Byte) (imm16 : Half)
  /-- DMA_SET, 0xD1: R391. -/
  | dmaSet (rd rs1 : Byte) (imm16 : Half)
  /-- MMIO_R, 0xD2: R392. -/
  | mmioR (rd rs1 : Byte) (imm16 : Half)
  /-- MMIO_W, 0xD3: R393. -/
  | mmioW (rd rs1 : Byte) (imm16 : Half)
  /-- ATOMIC, 0xD4: R394. -/
  | atomic (rd rs1 : Byte) (imm16 : Half)
  /-- CAS, 0xD5: R395. -/
  | cas (rd rs1 : Byte) (imm16 : Half)
  /-- FENCE, 0xD6: R396. -/
  | fence (rd rs1 : Byte) (imm16 : Half)
  /-- MALLOC, 0xD7: R397. -/
  | malloc (rd rs1 : Byte) (imm16 : Half)
  /-- FREE, 0xD8: R398. -/
  | free (rd rs1 : Byte) (imm16 : Half)
  /-- MPROT, 0xD9: R399. -/
  | mprot (rd rs1 : Byte) (imm16 : Half)
  /-- MCACHE, 0xDA: R400. -/
  | mcache (rd rs1 : Byte) (imm16 : Half)
  /-- GPU_LD, 0xDB: R401. -/
  | gpuLd (rd rs1 : Byte) (imm16 : Half)
  /-- GPU_ST, 0xDC: R402. -/
  | gpuSt (rd rs1 : Byte) (imm16 : Half)
  /-- GPU_EX, 0xDD: R403. -/
  | gpuEx (rd rs1 : Byte) (imm16 : Half)
  /-- GPU_SYNC, 0xDE: R404. -/
  | gpuSync (rd rs1 : Byte) (imm16 : Half)
  /-- reserved slot, 0xDF: R405. -/
  | reservedDF
  -- Long jumps, coroutines, debug, 0xE0..0xEF (Format F)
  /-- JMPL, 0xE0: R370. -/
  | jmpl (ign : Byte) (imm16 : Half)
  /-- JALL, 0xE1: R371. -/
  | jall (rd : Byte) (imm16 : Half)
  /-- CALLL, 0xE2: R372. -/
  | calll (rd : Byte) (imm16 : Half)
  /-- TAIL, 0xE3: R373. -/
  | tail (rd : Byte) (imm16 : Half)
  /-- SWITCH, 0xE4: R374. -/
  | switch (rd : Byte) (imm16 : Half)
  /-- COYIELD, 0xE5: R375. -/
  | coyield (rd : Byte) (imm16 : Half)
  /-- CORESUM, 0xE6: R376. -/
  | coresum (rd : Byte) (imm16 : Half)
  /-- FAULT, 0xE7: R377. -/
  | fault (rd : Byte) (imm16 : Half)
  /-- HANDLER, 0xE8: R378. -/
  | handler (rd : Byte) (imm16 : Half)
  /-- TRACE, 0xE9: R379. -/
  | trace (rd : Byte) (imm16 : Half)
  /-- PROF_ON, 0xEA: R380. -/
  | profOn (rd : Byte) (imm16 : Half)
  /-- PROF_OFF, 0xEB: R381. -/
  | profOff (rd : Byte) (imm16 : Half)
  /-- WATCH, 0xEC: R382. -/
  | watch (rd : Byte) (imm16 : Half)
  /-- reserved slot, 0xED: R383. -/
  | reservedED
  /-- reserved slot, 0xEE: R383. -/
  | reservedEE
  /-- reserved slot, 0xEF: R383. -/
  | reservedEF
  -- Extended system, 0xF0..0xFF (Format A)
  /-- HALT_ERR, 0xF0: R180. -/
  | haltErr
  /-- REBOOT, 0xF1: R181. -/
  | reboot
  /-- DUMP, 0xF2: R182. -/
  | dump
  /-- ASSERT, 0xF3: R183. -/
  | assert
  /-- ID, 0xF4: R184. -/
  | id
  /-- VER, 0xF5: R185. -/
  | ver
  /-- CLK, 0xF6: R186. -/
  | clk
  /-- PCLK, 0xF7: R187. -/
  | pclk
  /-- WDOG, 0xF8: R188. -/
  | wdog
  /-- SLEEP, 0xF9: R189. -/
  | sleep
  /-- reserved slot, 0xFA: R191. -/
  | reservedFA
  /-- reserved slot, 0xFB: R191. -/
  | reservedFB
  /-- reserved slot, 0xFC: R191. -/
  | reservedFC
  /-- reserved slot, 0xFD: R191. -/
  | reservedFD
  /-- reserved slot, 0xFE: R191. -/
  | reservedFE
  /-- ILLEGAL, 0xFF: R190. -/
  | illegal
  deriving DecidableEq, Repr

end Sys2Proof
end

