-- ==== Sys2Proof/Decode.lean ====
section
/-! DEFINITION. The decoder and the encoder (spec/30_encoding.md). The decoder reads the opcode byte, finds its format
in the opcode table (R121, R122, R130), and takes the operand bytes the format has (R123 to R129). It is total and
rejects by name (R154): it accepts every operand byte (log 44). A reserved slot or ILLEGAL is decided from its opcode
byte alone (R41 of 10_state.md, R150, R151). The encoder is written from the `Encoding:` line of each instruction's
rule. -/

namespace Sys2Proof

/-- Why a byte string holds no instruction. -/
inductive DecodeError where
  /-- There is no opcode byte. -/
  | noOpcode
  /-- The opcode `op` is there and an operand byte of it is not. -/
  | truncated (op : Byte)
  deriving DecidableEq, Repr

/-- What an opcode byte selects: a format (30_encoding.md R123 to R129) and the instruction its operand bytes give;
`stop` is a reserved slot or ILLEGAL, decided on the opcode byte alone (R150, R151). -/
inductive Shape where
  | stop (i : Instr)
  | a (i : Instr)
  | b (f : Byte → Instr)
  | c (f : Byte → Instr)
  | d (f : Byte → Byte → Instr)
  | e (f : Byte → Byte → Byte → Instr)
  | f (f : Byte → Half → Instr)
  | g (f : Byte → Byte → Half → Instr)

/-- `Length(op)` by format (30_encoding.md R122); a reserved slot or ILLEGAL has none that is ever used. -/
def Shape.length : Shape → Option Nat
  | .stop _ => none
  | .a _ => some 1
  | .b _ => some 2
  | .c _ => some 2
  | .d _ => some 3
  | .e _ => some 4
  | .f _ => some 4
  | .g _ => some 5

/-- Opcodes 0x00..0x0F in order (30_encoding.md R122, R140). -/
def opcodeRow0 : List Shape :=
  [.a .halt, .a .nop, .a .ret, .a .iret, .a .brk, .a .wfi, .a .reset, .a .syn, .b .inc, .b .dec,
   .b .not, .b .neg, .b .push, .b .pop, .b .confLd, .b .confSt]

/-- Opcodes 0x10..0x1F in order (30_encoding.md R122, R140). -/
def opcodeRow1 : List Shape :=
  [.c .sys, .c .trap, .c .dbg, .c .clf, .c .sema, .c .yield, .c .cache, .c .stripcf, .d .movi,
   .d .addi, .d .subi, .d .andi, .d .ori, .d .xori, .d .shli, .d .shri]

/-- Opcodes 0x20..0x2F in order (30_encoding.md R122, R140). -/
def opcodeRow2 : List Shape :=
  [.e .add, .e .sub, .e .mul, .e .div, .e .mod, .e .and, .e .or, .e .xor, .e .shl, .e .shr, .e .min,
   .e .max, .e .cmpEq, .e .cmpLt, .e .cmpGt, .e .cmpNe]

/-- Opcodes 0x30..0x3F in order (30_encoding.md R122, R140). -/
def opcodeRow3 : List Shape :=
  [.e .fadd, .e .fsub, .e .fmul, .e .fdiv, .e .fmin, .e .fmax, .e .ftoi, .e .itof, .e .load,
   .e .store, .e .mov, .e .swp, .e .jz, .e .jnz, .e .jlt, .e .jgt]

/-- Opcodes 0x40..0x4F in order (30_encoding.md R122, R140). -/
def opcodeRow4 : List Shape :=
  [.f .movi16, .f .addi16, .f .subi16, .f .jmp, .f .jal, .f .call, .f .loop, .f .select,
   .g .loadoff, .g .storeoff, .g .loadi, .g .storei, .g .enter, .g .leave, .g .copy, .g .fill]

/-- Opcodes 0x50..0x5F in order (30_encoding.md R122, R140). -/
def opcodeRow5 : List Shape :=
  [.e .tell, .e .ask, .e .deleg, .e .bcast, .e .accept, .e .decline, .e .report, .e .merge,
   .e .fork, .e .join, .e .signal, .e .await, .e .trust, .e .discov, .e .status, .e .heartbt]

/-- Opcodes 0x60..0x6F in order (30_encoding.md R122, R140). -/
def opcodeRow6 : List Shape :=
  [.e .cAdd, .e .cSub, .e .cMul, .e .cDiv, .e .cFadd, .e .cFsub, .e .cFmul, .e .cFdiv, .e .cMerge,
   .d .cThresh, .e .cBoost, .e .cDecay, .e .cSource, .e .cCalib, .e .cExply, .e .cVote]

/-- Opcodes 0x70..0x7F in order (30_encoding.md R122, R140). -/
def opcodeRow7 : List Shape :=
  [.e .vEvid, .e .vEpist, .e .vMir, .e .vNeg, .e .vTense, .e .vAspec, .e .vModal, .e .vPolit,
   .e .vHonor, .e .vTopic, .e .vFocus, .e .vCase, .e .vAgree, .e .vClass, .e .vInfl, .e .vPragma]

/-- Opcodes 0x80..0x8F in order (30_encoding.md R122, R140). -/
def opcodeRow8 : List Shape :=
  [.e .sense, .e .actuate, .e .sample, .e .energy, .e .temp, .e .gps, .e .accel, .e .depth,
   .e .camcap, .e .camdet, .e .pwm, .e .gpio, .e .i2c, .e .spi, .e .uart, .e .canbus]

/-- Opcodes 0x90..0x9F in order (30_encoding.md R122, R140). -/
def opcodeRow9 : List Shape :=
  [.e .abs, .e .sign, .e .sqrt, .e .pow, .e .log2, .e .clz, .e .ctz, .e .popcnt, .e .crc32,
   .e .sha256, .e .rnd, .e .seed, .e .fmod, .e .fsqrt, .e .fsin, .e .fcos]

/-- Opcodes 0xA0..0xAF in order (30_encoding.md R122, R140). -/
def opcodeRowA : List Shape :=
  [.d .len, .e .concat, .e .collAt, .e .setat, .g .slice, .e .reduce, .e .map, .e .filter, .e .sort,
   .e .find, .e .hash, .e .hmac, .e .verify, .e .encrypt, .e .decrypt, .e .keygen]

/-- Opcodes 0xB0..0xBF in order (30_encoding.md R122, R140). -/
def opcodeRowB : List Shape :=
  [.e .vload, .e .vstore, .e .vadd, .e .vmul, .e .vdot, .e .vnorm, .e .vscale, .e .vmaxp, .e .vminp,
   .e .vreduce, .e .vgather, .e .vscatter, .e .vshuf, .e .vmerge, .e .vconf, .e .vselect]

/-- Opcodes 0xC0..0xCF in order (30_encoding.md R122, R140). -/
def opcodeRowC : List Shape :=
  [.e .tmatmul, .e .tconv, .e .tpool, .e .trelu, .e .tsigm, .e .tsoft, .e .tloss, .e .tgrad,
   .e .tupdate, .e .tadam, .e .tembed, .e .tattn, .e .tsample, .e .ttoken, .e .tdetok, .e .tquant]

/-- Opcodes 0xD0..0xDF in order (30_encoding.md R122, R140). -/
def opcodeRowD : List Shape :=
  [.g .dmaCpy, .g .dmaSet, .g .mmioR, .g .mmioW, .g .atomic, .g .cas, .g .fence, .g .malloc,
   .g .free, .g .mprot, .g .mcache, .g .gpuLd, .g .gpuSt, .g .gpuEx, .g .gpuSync, .stop .reservedDF]

/-- Opcodes 0xE0..0xEF in order (30_encoding.md R122, R140). -/
def opcodeRowE : List Shape :=
  [.f .jmpl, .f .jall, .f .calll, .f .tail, .f .switch, .f .coyield, .f .coresum, .f .fault,
   .f .handler, .f .trace, .f .profOn, .f .profOff, .f .watch, .stop .reservedED, .stop .reservedEE,
   .stop .reservedEF]

/-- Opcodes 0xF0..0xFF in order (30_encoding.md R122, R140). -/
def opcodeRowF : List Shape :=
  [.a .haltErr, .a .reboot, .a .dump, .a .assert, .a .id, .a .ver, .a .clk, .a .pclk, .a .wdog,
   .a .sleep, .stop .reservedFA, .stop .reservedFB, .stop .reservedFC, .stop .reservedFD,
   .stop .reservedFE, .stop .illegal]

/-- The opcode map (30_encoding.md R140): row `k` holds opcodes `16 k .. 16 k + 15`. -/
def opcodeTable : List (List Shape) :=
  [opcodeRow0, opcodeRow1, opcodeRow2, opcodeRow3] ++ [opcodeRow4, opcodeRow5, opcodeRow6, opcodeRow7] ++
  [opcodeRow8, opcodeRow9, opcodeRowA, opcodeRowB] ++ [opcodeRowC, opcodeRowD, opcodeRowE, opcodeRowF]

/-- The row an opcode byte selects (30_encoding.md R154). All 256 are there, so the default is never taken. -/
def shapeOf (op : Byte) : Shape :=
  ((opcodeTable.getD (op.toNat / 16) []).getD (op.toNat % 16)) (.stop .illegal)

/-- `Length(op)`, none for a reserved slot or ILLEGAL (30_encoding.md R122, R150). -/
def opLength (op : Byte) : Option Nat := (shapeOf op).length

/-- imm16 from the byte at the lower address and the one at the higher (30_encoding.md R131; log 19). -/
def halfOf (o : ByteOrder) (atLower atHigher : Byte) : Half :=
  match o with
  | .little => atHigher ++ atLower
  | .hiFirst => atLower ++ atHigher

/-- The two bytes of imm16, the one at the lower address first (30_encoding.md R131; log 19). -/
def halfBytes (o : ByteOrder) (h : Half) : List Byte :=
  match o with
  | .little => [h.extractLsb' 0 8, h.extractLsb' 8 8]
  | .hiFirst => [h.extractLsb' 8 8, h.extractLsb' 0 8]

/-- The instruction at the head of a byte string and the bytes after it (30_encoding.md R121, R154). -/
def decode (o : ByteOrder) : List Byte → Except DecodeError (Instr × List Byte)
  | [] => .error .noOpcode
  | op :: operands =>
    match shapeOf op, operands with
    | .stop i, rest => .ok (i, rest)
    | .a i, rest => .ok (i, rest)
    | .b f, b1 :: rest => .ok (f b1, rest)
    | .c f, b1 :: rest => .ok (f b1, rest)
    | .d f, b1 :: b2 :: rest => .ok (f b1 b2, rest)
    | .e f, b1 :: b2 :: b3 :: rest => .ok (f b1 b2 b3, rest)
    | .f f, b1 :: b2 :: b3 :: rest => .ok (f b1 (halfOf o b2 b3), rest)
    | .g f, b1 :: b2 :: b3 :: b4 :: rest => .ok (f b1 b2 (halfOf o b3 b4), rest)
    | _, _ => .error (.truncated op)

/-- The bytes of an instruction, the opcode first (the `Encoding:` line of each instruction's rule). -/
def encode (o : ByteOrder) : Instr → List Byte
  -- System control and interrupt/debug, 0x00..0x07 (Format A)
  | .halt => [0x00]
  | .nop => [0x01]
  | .ret => [0x02]
  | .iret => [0x03]
  | .brk => [0x04]
  | .wfi => [0x05]
  | .reset => [0x06]
  | .syn => [0x07]
  -- Single register, 0x08..0x0F (Format B)
  | .inc rd => [0x08, rd]
  | .dec rd => [0x09, rd]
  | .not rd => [0x0A, rd]
  | .neg rd => [0x0B, rd]
  | .push rd => [0x0C, rd]
  | .pop rd => [0x0D, rd]
  | .confLd rd => [0x0E, rd]
  | .confSt rd => [0x0F, rd]
  -- Immediate, 0x10..0x17 (Format C)
  | .sys imm8 => [0x10, imm8]
  | .trap imm8 => [0x11, imm8]
  | .dbg imm8 => [0x12, imm8]
  | .clf imm8 => [0x13, imm8]
  | .sema imm8 => [0x14, imm8]
  | .yield imm8 => [0x15, imm8]
  | .cache imm8 => [0x16, imm8]
  | .stripcf imm8 => [0x17, imm8]
  -- Register + imm8, 0x18..0x1F (Format D)
  | .movi rd imm8 => [0x18, rd, imm8]
  | .addi rd imm8 => [0x19, rd, imm8]
  | .subi rd imm8 => [0x1A, rd, imm8]
  | .andi rd imm8 => [0x1B, rd, imm8]
  | .ori rd imm8 => [0x1C, rd, imm8]
  | .xori rd imm8 => [0x1D, rd, imm8]
  | .shli rd imm8 => [0x1E, rd, imm8]
  | .shri rd imm8 => [0x1F, rd, imm8]
  -- Integer arithmetic, 0x20..0x2F (Format E)
  | .add rd rs1 rs2 => [0x20, rd, rs1, rs2]
  | .sub rd rs1 rs2 => [0x21, rd, rs1, rs2]
  | .mul rd rs1 rs2 => [0x22, rd, rs1, rs2]
  | .div rd rs1 rs2 => [0x23, rd, rs1, rs2]
  | .mod rd rs1 rs2 => [0x24, rd, rs1, rs2]
  | .and rd rs1 rs2 => [0x25, rd, rs1, rs2]
  | .or rd rs1 rs2 => [0x26, rd, rs1, rs2]
  | .xor rd rs1 rs2 => [0x27, rd, rs1, rs2]
  | .shl rd rs1 rs2 => [0x28, rd, rs1, rs2]
  | .shr rd rs1 rs2 => [0x29, rd, rs1, rs2]
  | .min rd rs1 rs2 => [0x2A, rd, rs1, rs2]
  | .max rd rs1 rs2 => [0x2B, rd, rs1, rs2]
  | .cmpEq rd rs1 rs2 => [0x2C, rd, rs1, rs2]
  | .cmpLt rd rs1 rs2 => [0x2D, rd, rs1, rs2]
  | .cmpGt rd rs1 rs2 => [0x2E, rd, rs1, rs2]
  | .cmpNe rd rs1 rs2 => [0x2F, rd, rs1, rs2]
  -- Float, memory, control, 0x30..0x3F (Format E)
  | .fadd rd rs1 rs2 => [0x30, rd, rs1, rs2]
  | .fsub rd rs1 rs2 => [0x31, rd, rs1, rs2]
  | .fmul rd rs1 rs2 => [0x32, rd, rs1, rs2]
  | .fdiv rd rs1 rs2 => [0x33, rd, rs1, rs2]
  | .fmin rd rs1 rs2 => [0x34, rd, rs1, rs2]
  | .fmax rd rs1 rs2 => [0x35, rd, rs1, rs2]
  | .ftoi rd rs1 ign => [0x36, rd, rs1, ign]
  | .itof rd rs1 ign => [0x37, rd, rs1, ign]
  | .load rd rs1 rs2 => [0x38, rd, rs1, rs2]
  | .store rd rs1 rs2 => [0x39, rd, rs1, rs2]
  | .mov rd rs1 ign => [0x3A, rd, rs1, ign]
  | .swp rd rs1 ign => [0x3B, rd, rs1, ign]
  | .jz rd rs1 ign => [0x3C, rd, rs1, ign]
  | .jnz rd rs1 ign => [0x3D, rd, rs1, ign]
  | .jlt rd rs1 ign => [0x3E, rd, rs1, ign]
  | .jgt rd rs1 ign => [0x3F, rd, rs1, ign]
  -- Register + imm16, 0x40..0x47 (Format F)
  | .movi16 rd imm16 => 0x40 :: rd :: halfBytes o imm16
  | .addi16 rd imm16 => 0x41 :: rd :: halfBytes o imm16
  | .subi16 rd imm16 => 0x42 :: rd :: halfBytes o imm16
  | .jmp ign imm16 => 0x43 :: ign :: halfBytes o imm16
  | .jal rd imm16 => 0x44 :: rd :: halfBytes o imm16
  | .call rd imm16 => 0x45 :: rd :: halfBytes o imm16
  | .loop rd imm16 => 0x46 :: rd :: halfBytes o imm16
  | .select rd imm16 => 0x47 :: rd :: halfBytes o imm16
  -- Register + register + imm16, 0x48..0x4F (Format G)
  | .loadoff rd rs1 imm16 => 0x48 :: rd :: rs1 :: halfBytes o imm16
  | .storeoff rd rs1 imm16 => 0x49 :: rd :: rs1 :: halfBytes o imm16
  | .loadi rd rs1 imm16 => 0x4A :: rd :: rs1 :: halfBytes o imm16
  | .storei rd rs1 imm16 => 0x4B :: rd :: rs1 :: halfBytes o imm16
  | .enter rd rs1 imm16 => 0x4C :: rd :: rs1 :: halfBytes o imm16
  | .leave rd rs1 imm16 => 0x4D :: rd :: rs1 :: halfBytes o imm16
  | .copy rd rs1 imm16 => 0x4E :: rd :: rs1 :: halfBytes o imm16
  | .fill rd rs1 imm16 => 0x4F :: rd :: rs1 :: halfBytes o imm16
  -- Agent-to-agent, 0x50..0x5F (Format E)
  | .tell rd rs1 rs2 => [0x50, rd, rs1, rs2]
  | .ask rd rs1 rs2 => [0x51, rd, rs1, rs2]
  | .deleg rd rs1 rs2 => [0x52, rd, rs1, rs2]
  | .bcast rd rs1 rs2 => [0x53, rd, rs1, rs2]
  | .accept rd rs1 rs2 => [0x54, rd, rs1, rs2]
  | .decline rd rs1 rs2 => [0x55, rd, rs1, rs2]
  | .report rd rs1 rs2 => [0x56, rd, rs1, rs2]
  | .merge rd rs1 rs2 => [0x57, rd, rs1, rs2]
  | .fork rd rs1 rs2 => [0x58, rd, rs1, rs2]
  | .join rd rs1 rs2 => [0x59, rd, rs1, rs2]
  | .signal rd rs1 rs2 => [0x5A, rd, rs1, rs2]
  | .await rd rs1 rs2 => [0x5B, rd, rs1, rs2]
  | .trust rd rs1 rs2 => [0x5C, rd, rs1, rs2]
  | .discov rd rs1 rs2 => [0x5D, rd, rs1, rs2]
  | .status rd rs1 rs2 => [0x5E, rd, rs1, rs2]
  | .heartbt rd rs1 rs2 => [0x5F, rd, rs1, rs2]
  -- Confidence, 0x60..0x6F (Format E; C_THRESH: D)
  | .cAdd rd rs1 rs2 => [0x60, rd, rs1, rs2]
  | .cSub rd rs1 rs2 => [0x61, rd, rs1, rs2]
  | .cMul rd rs1 rs2 => [0x62, rd, rs1, rs2]
  | .cDiv rd rs1 rs2 => [0x63, rd, rs1, rs2]
  | .cFadd rd rs1 rs2 => [0x64, rd, rs1, rs2]
  | .cFsub rd rs1 rs2 => [0x65, rd, rs1, rs2]
  | .cFmul rd rs1 rs2 => [0x66, rd, rs1, rs2]
  | .cFdiv rd rs1 rs2 => [0x67, rd, rs1, rs2]
  | .cMerge rd rs1 rs2 => [0x68, rd, rs1, rs2]
  | .cThresh rd imm8 => [0x69, rd, imm8]
  | .cBoost rd rs1 rs2 => [0x6A, rd, rs1, rs2]
  | .cDecay rd rs1 rs2 => [0x6B, rd, rs1, rs2]
  | .cSource rd rs1 rs2 => [0x6C, rd, rs1, rs2]
  | .cCalib rd rs1 rs2 => [0x6D, rd, rs1, rs2]
  | .cExply rd rs1 rs2 => [0x6E, rd, rs1, rs2]
  | .cVote rd rs1 rs2 => [0x6F, rd, rs1, rs2]
  -- Viewpoint, 0x70..0x7F (Format E)
  | .vEvid rd rs1 rs2 => [0x70, rd, rs1, rs2]
  | .vEpist rd rs1 rs2 => [0x71, rd, rs1, rs2]
  | .vMir rd rs1 rs2 => [0x72, rd, rs1, rs2]
  | .vNeg rd rs1 rs2 => [0x73, rd, rs1, rs2]
  | .vTense rd rs1 rs2 => [0x74, rd, rs1, rs2]
  | .vAspec rd rs1 rs2 => [0x75, rd, rs1, rs2]
  | .vModal rd rs1 rs2 => [0x76, rd, rs1, rs2]
  | .vPolit rd rs1 rs2 => [0x77, rd, rs1, rs2]
  | .vHonor rd rs1 rs2 => [0x78, rd, rs1, rs2]
  | .vTopic rd rs1 rs2 => [0x79, rd, rs1, rs2]
  | .vFocus rd rs1 rs2 => [0x7A, rd, rs1, rs2]
  | .vCase rd rs1 rs2 => [0x7B, rd, rs1, rs2]
  | .vAgree rd rs1 rs2 => [0x7C, rd, rs1, rs2]
  | .vClass rd rs1 rs2 => [0x7D, rd, rs1, rs2]
  | .vInfl rd rs1 rs2 => [0x7E, rd, rs1, rs2]
  | .vPragma rd rs1 rs2 => [0x7F, rd, rs1, rs2]
  -- Sensor, 0x80..0x8F (Format E)
  | .sense rd rs1 rs2 => [0x80, rd, rs1, rs2]
  | .actuate rd rs1 rs2 => [0x81, rd, rs1, rs2]
  | .sample rd rs1 rs2 => [0x82, rd, rs1, rs2]
  | .energy rd rs1 rs2 => [0x83, rd, rs1, rs2]
  | .temp rd rs1 rs2 => [0x84, rd, rs1, rs2]
  | .gps rd rs1 rs2 => [0x85, rd, rs1, rs2]
  | .accel rd rs1 rs2 => [0x86, rd, rs1, rs2]
  | .depth rd rs1 rs2 => [0x87, rd, rs1, rs2]
  | .camcap rd rs1 rs2 => [0x88, rd, rs1, rs2]
  | .camdet rd rs1 rs2 => [0x89, rd, rs1, rs2]
  | .pwm rd rs1 rs2 => [0x8A, rd, rs1, rs2]
  | .gpio rd rs1 rs2 => [0x8B, rd, rs1, rs2]
  | .i2c rd rs1 rs2 => [0x8C, rd, rs1, rs2]
  | .spi rd rs1 rs2 => [0x8D, rd, rs1, rs2]
  | .uart rd rs1 rs2 => [0x8E, rd, rs1, rs2]
  | .canbus rd rs1 rs2 => [0x8F, rd, rs1, rs2]
  -- Extended math and crypto, 0x90..0x9F (Format E)
  | .abs rd rs1 ign => [0x90, rd, rs1, ign]
  | .sign rd rs1 ign => [0x91, rd, rs1, ign]
  | .sqrt rd rs1 ign => [0x92, rd, rs1, ign]
  | .pow rd rs1 rs2 => [0x93, rd, rs1, rs2]
  | .log2 rd rs1 ign => [0x94, rd, rs1, ign]
  | .clz rd rs1 ign => [0x95, rd, rs1, ign]
  | .ctz rd rs1 ign => [0x96, rd, rs1, ign]
  | .popcnt rd rs1 ign => [0x97, rd, rs1, ign]
  | .crc32 rd rs1 rs2 => [0x98, rd, rs1, rs2]
  | .sha256 rd rs1 rs2 => [0x99, rd, rs1, rs2]
  | .rnd rd rs1 rs2 => [0x9A, rd, rs1, rs2]
  | .seed rd rs1 ign => [0x9B, rd, rs1, ign]
  | .fmod rd rs1 rs2 => [0x9C, rd, rs1, rs2]
  | .fsqrt rd rs1 ign => [0x9D, rd, rs1, ign]
  | .fsin rd rs1 ign => [0x9E, rd, rs1, ign]
  | .fcos rd rs1 ign => [0x9F, rd, rs1, ign]
  -- Collections and crypto, 0xA0..0xAF (Format E; LEN: D, SLICE: G)
  | .len rd imm8 => [0xA0, rd, imm8]
  | .concat rd rs1 rs2 => [0xA1, rd, rs1, rs2]
  | .collAt rd rs1 rs2 => [0xA2, rd, rs1, rs2]
  | .setat rd rs1 rs2 => [0xA3, rd, rs1, rs2]
  | .slice rd rs1 imm16 => 0xA4 :: rd :: rs1 :: halfBytes o imm16
  | .reduce rd rs1 rs2 => [0xA5, rd, rs1, rs2]
  | .map rd rs1 rs2 => [0xA6, rd, rs1, rs2]
  | .filter rd rs1 rs2 => [0xA7, rd, rs1, rs2]
  | .sort rd rs1 rs2 => [0xA8, rd, rs1, rs2]
  | .find rd rs1 rs2 => [0xA9, rd, rs1, rs2]
  | .hash rd rs1 rs2 => [0xAA, rd, rs1, rs2]
  | .hmac rd rs1 rs2 => [0xAB, rd, rs1, rs2]
  | .verify rd rs1 rs2 => [0xAC, rd, rs1, rs2]
  | .encrypt rd rs1 rs2 => [0xAD, rd, rs1, rs2]
  | .decrypt rd rs1 rs2 => [0xAE, rd, rs1, rs2]
  | .keygen rd rs1 rs2 => [0xAF, rd, rs1, rs2]
  -- Vector, 0xB0..0xBF (Format E)
  | .vload rd rs1 rs2 => [0xB0, rd, rs1, rs2]
  | .vstore rd rs1 rs2 => [0xB1, rd, rs1, rs2]
  | .vadd rd rs1 rs2 => [0xB2, rd, rs1, rs2]
  | .vmul rd rs1 rs2 => [0xB3, rd, rs1, rs2]
  | .vdot rd rs1 rs2 => [0xB4, rd, rs1, rs2]
  | .vnorm rd rs1 rs2 => [0xB5, rd, rs1, rs2]
  | .vscale rd rs1 rs2 => [0xB6, rd, rs1, rs2]
  | .vmaxp rd rs1 rs2 => [0xB7, rd, rs1, rs2]
  | .vminp rd rs1 rs2 => [0xB8, rd, rs1, rs2]
  | .vreduce rd rs1 rs2 => [0xB9, rd, rs1, rs2]
  | .vgather rd rs1 rs2 => [0xBA, rd, rs1, rs2]
  | .vscatter rd rs1 rs2 => [0xBB, rd, rs1, rs2]
  | .vshuf rd rs1 rs2 => [0xBC, rd, rs1, rs2]
  | .vmerge rd rs1 rs2 => [0xBD, rd, rs1, rs2]
  | .vconf rd rs1 rs2 => [0xBE, rd, rs1, rs2]
  | .vselect rd rs1 rs2 => [0xBF, rd, rs1, rs2]
  -- Tensor, 0xC0..0xCF (Format E)
  | .tmatmul rd rs1 rs2 => [0xC0, rd, rs1, rs2]
  | .tconv rd rs1 rs2 => [0xC1, rd, rs1, rs2]
  | .tpool rd rs1 rs2 => [0xC2, rd, rs1, rs2]
  | .trelu rd rs1 rs2 => [0xC3, rd, rs1, rs2]
  | .tsigm rd rs1 rs2 => [0xC4, rd, rs1, rs2]
  | .tsoft rd rs1 rs2 => [0xC5, rd, rs1, rs2]
  | .tloss rd rs1 rs2 => [0xC6, rd, rs1, rs2]
  | .tgrad rd rs1 rs2 => [0xC7, rd, rs1, rs2]
  | .tupdate rd rs1 rs2 => [0xC8, rd, rs1, rs2]
  | .tadam rd rs1 rs2 => [0xC9, rd, rs1, rs2]
  | .tembed rd rs1 rs2 => [0xCA, rd, rs1, rs2]
  | .tattn rd rs1 rs2 => [0xCB, rd, rs1, rs2]
  | .tsample rd rs1 rs2 => [0xCC, rd, rs1, rs2]
  | .ttoken rd rs1 rs2 => [0xCD, rd, rs1, rs2]
  | .tdetok rd rs1 rs2 => [0xCE, rd, rs1, rs2]
  | .tquant rd rs1 rs2 => [0xCF, rd, rs1, rs2]
  -- Extended memory and I/O, 0xD0..0xDF (Format G)
  | .dmaCpy rd rs1 imm16 => 0xD0 :: rd :: rs1 :: halfBytes o imm16
  | .dmaSet rd rs1 imm16 => 0xD1 :: rd :: rs1 :: halfBytes o imm16
  | .mmioR rd rs1 imm16 => 0xD2 :: rd :: rs1 :: halfBytes o imm16
  | .mmioW rd rs1 imm16 => 0xD3 :: rd :: rs1 :: halfBytes o imm16
  | .atomic rd rs1 imm16 => 0xD4 :: rd :: rs1 :: halfBytes o imm16
  | .cas rd rs1 imm16 => 0xD5 :: rd :: rs1 :: halfBytes o imm16
  | .fence rd rs1 imm16 => 0xD6 :: rd :: rs1 :: halfBytes o imm16
  | .malloc rd rs1 imm16 => 0xD7 :: rd :: rs1 :: halfBytes o imm16
  | .free rd rs1 imm16 => 0xD8 :: rd :: rs1 :: halfBytes o imm16
  | .mprot rd rs1 imm16 => 0xD9 :: rd :: rs1 :: halfBytes o imm16
  | .mcache rd rs1 imm16 => 0xDA :: rd :: rs1 :: halfBytes o imm16
  | .gpuLd rd rs1 imm16 => 0xDB :: rd :: rs1 :: halfBytes o imm16
  | .gpuSt rd rs1 imm16 => 0xDC :: rd :: rs1 :: halfBytes o imm16
  | .gpuEx rd rs1 imm16 => 0xDD :: rd :: rs1 :: halfBytes o imm16
  | .gpuSync rd rs1 imm16 => 0xDE :: rd :: rs1 :: halfBytes o imm16
  | .reservedDF => [0xDF]
  -- Long jumps, coroutines, debug, 0xE0..0xEF (Format F)
  | .jmpl ign imm16 => 0xE0 :: ign :: halfBytes o imm16
  | .jall rd imm16 => 0xE1 :: rd :: halfBytes o imm16
  | .calll rd imm16 => 0xE2 :: rd :: halfBytes o imm16
  | .tail rd imm16 => 0xE3 :: rd :: halfBytes o imm16
  | .switch rd imm16 => 0xE4 :: rd :: halfBytes o imm16
  | .coyield rd imm16 => 0xE5 :: rd :: halfBytes o imm16
  | .coresum rd imm16 => 0xE6 :: rd :: halfBytes o imm16
  | .fault rd imm16 => 0xE7 :: rd :: halfBytes o imm16
  | .handler rd imm16 => 0xE8 :: rd :: halfBytes o imm16
  | .trace rd imm16 => 0xE9 :: rd :: halfBytes o imm16
  | .profOn rd imm16 => 0xEA :: rd :: halfBytes o imm16
  | .profOff rd imm16 => 0xEB :: rd :: halfBytes o imm16
  | .watch rd imm16 => 0xEC :: rd :: halfBytes o imm16
  | .reservedED => [0xED]
  | .reservedEE => [0xEE]
  | .reservedEF => [0xEF]
  -- Extended system, 0xF0..0xFF (Format A)
  | .haltErr => [0xF0]
  | .reboot => [0xF1]
  | .dump => [0xF2]
  | .assert => [0xF3]
  | .id => [0xF4]
  | .ver => [0xF5]
  | .clk => [0xF6]
  | .pclk => [0xF7]
  | .wdog => [0xF8]
  | .sleep => [0xF9]
  | .reservedFA => [0xFA]
  | .reservedFB => [0xFB]
  | .reservedFC => [0xFC]
  | .reservedFD => [0xFD]
  | .reservedFE => [0xFE]
  | .illegal => [0xFF]

/-- The bytes of a number, the least significant first. -/
def leBytes : Nat → Nat → List Byte
  | 0, _ => []
  | n + 1, w => BitVec.ofNat 8 w :: leBytes n (w / 256)

/-- The bytes of an instruction whose bits are `w` as spec/opcode_table.json numbers them, `nbits` of them given and
every bit above them 0, up to the longest instruction. -/
def tableBytes (nbits w : Nat) : List Byte := leBytes Config.maxLength (w % 2 ^ nbits)

/-- The instruction the decoder reads from an instruction whose bits are `w`, under the default IMM16_ORDER. -/
def decodeTableWord (nbits w : Nat) : Option Instr :=
  match decode Params.default.imm16Order (tableBytes nbits w) with
  | .ok (i, _) => some i
  | .error _ => none

end Sys2Proof
end

