-- ==== Sys2Proof/Machine/State.lean ====
section
/-! DEFINITION. The state of one FLUX VM (spec/10_state.md R30, R66), the reasons a step can stop
(spec/60_exceptions.md R601 to R603), and the machine right after initialisation (spec/70_reset_and_hazards.md R651).
State is plain data. -/

namespace Sys2Proof.Machine

/-- A confidence value: `CONF.T` taken as the rationals in 0..1 (10_state.md R60; 48_confidence_a2a.md R511; log 10). -/
structure Conf where
  val : Rat
  nonneg : 0 ≤ val
  leOne : val ≤ 1
  deriving DecidableEq, Repr

/-- `CONF.zero` (48_confidence_a2a.md R511). -/
def Conf.zero : Conf := ⟨0, by decide, by decide⟩

/-- `CONF.one` (48_confidence_a2a.md R511). -/
def Conf.one : Conf := ⟨1, by decide, by decide⟩

/-- Data memory: the listed bytes, addresses strictly rising, none equal to what an unlisted address reads as. -/
abbrev Memory := List Host.Cell

/-- What an unlisted address reads as (70_reset_and_hazards.md R652 gives INIT_MEM no default; log 4). -/
def Memory.unlisted : Byte := 0

/-- The four condition flags (10_state.md R46). -/
structure Flags where
  z : Bool
  s : Bool
  c : Bool
  o : Bool
  deriving DecidableEq, Repr

/-- A row of the region table (20_memory.md R80); the region's data stands in `State.mem` or `State.heap`. -/
structure Region where
  name : String
  size : Nat
  owner : String
  borrowers : List String
  deriving DecidableEq, Repr

/-- The event DBG emits: `DebugPrint(reg, value)` (41_single_reg_and_imm.md R222). -/
structure DebugPrint where
  reg : Byte
  value : Word
  deriving DecidableEq, Repr

/-- The state of one VM: 10_state.md R30 (1) to (7), the region table of R66, the arguments of the run
(00_scope.md R8; 70_reset_and_hazards.md R651), and two fields of the model's own, `debugOut` and `draws`. -/
structure State where
  /-- R0..R47, 32 bits each (10_state.md R31 to R35). The cell of R0 is never read or written (R32). -/
  x : Vector Word 48
  /-- V0..V15 = R48..R63, 128 bits each (10_state.md R36). -/
  v : Vector VWord 16
  /-- The program counter, a mathematical integer (10_state.md R40). -/
  pc : Int
  /-- Set by HALT and by RET on an empty stack (10_state.md R44). -/
  halted : Bool
  /-- The cycle counter (10_state.md R45). -/
  cycles : Nat
  /-- Z, S, C, O (10_state.md R46). -/
  flags : Flags
  /-- The confidence cells c[0..63] (10_state.md R60). -/
  conf : Vector Conf 64
  /-- The confidence accumulator (10_state.md R61). -/
  cacc : Conf
  /-- The data memory M, the data of the region "stack" (20_memory.md R81). -/
  mem : Memory
  /-- The data of the region "heap", mapped at no address of M (20_memory.md R80, R81; log 5). -/
  heap : Memory
  /-- The region table (20_memory.md R80). -/
  regions : List Region
  /-- The PRNG seed, or unset (10_state.md R63). -/
  seed : Option Word
  /-- CODE, the loaded bytecode (20_memory.md R82; 70_reset_and_hazards.md R650; log 2). -/
  code : List Byte
  /-- The parameters of the run (00_scope.md R8; log 1). -/
  params : Params
  /-- The model's own: the DebugPrint events emitted so far, oldest first (60_exceptions.md R622; log 34). -/
  debugOut : List DebugPrint
  /-- The model's own: how many draws have been taken (00_scope.md R11 `any`; log 8). -/
  draws : Nat
  deriving DecidableEq, Repr

/-- Why the machine stops in the faulted end state (60_exceptions.md R601, R605 to R610), and the stuck end state
(R603). The state at the fault is the state before the instruction (R601): it is the argument of the step that
answers with the fault. Every one is safe: the model stops, and nothing follows from it about what comes after. -/
inductive Fault where
  /-- A reserved slot or ILLEGAL, with its opcode byte (R605). Raised by those ten rows. Safe. -/
  | illegalOpcode (op : Byte)
  /-- A data access outside M, with its lowest address (R606). Raised by LOAD, STORE, LOADOFF, STOREOFF, LOADI,
  STOREI, PUSH, POP, RET, CALL, CALLL, COPY, FILL, ATOMIC, CRC32. Safe. -/
  | memoryFault (addr : Int)
  /-- A fetch outside the bytecode (R607). Raised by the fetch of any instruction, and by C_THRESH when there is no
  instruction to skip. Safe. -/
  | fetchFault (addr : Int)
  /-- A zero divisor, with the pc (R608). Raised by DIV, MOD, FDIV, C_DIV, C_FDIV. Safe. -/
  | divideByZero (pc : Int)
  /-- LOG2 of a value not above 0, FSQRT of a negative number, with the pc (R609). Safe. -/
  | domainError (pc : Int)
  /-- BRK, with its pc (R610). Safe. -/
  | breakpoint (pc : Int)
  /-- Not a fault of the VM: the stuck end state of WFI, in which no step is enabled (R603; log 13). Safe. -/
  | stuck (pc : Int)
  deriving DecidableEq, Repr

/-- Why the run ends in the refused end state (60_exceptions.md R602): the reasons of 93_implementation_defined.md
section 3. A `String` argument is the part of the reason before its last underscore, the mnemonic as a rule. Every one
is safe: it claims nothing of what the VM does (log 15, log 16). -/
inductive Refusal where
  /-- An instruction that has no meaning in the model yet. Raised by `exec` alone. Safe. -/
  | notModelled (mnemonic : String)
  /-- A used register byte of NREG or more (10_state.md R37). Raised by operand validation. Safe. -/
  | registerOutOfRange
  /-- A used register byte in 48..63 where a 32-bit value is read or written (10_state.md R36). Safe. -/
  | vectorRegisterAs32Bit
  /-- `POP R11` (41_single_reg_and_imm.md R215). Safe. -/
  | popIntoSP
  /-- DBG of a register that is not a 32-bit one (41_single_reg_and_imm.md R222). Safe. -/
  | dbgOperand
  /-- CACHE with imm8 above 2 (41_single_reg_and_imm.md R226). Safe. -/
  | cacheOperation
  /-- SHLI, SHRI with a count of 64..255 (41_single_reg_and_imm.md R236, R237). Safe. -/
  | shiftCount
  /-- FTOI of a NaN, an infinity or a value outside s32 (43_float_memory_control.md R298). Safe. -/
  | ftoiRange
  /-- LOOP, SELECT, LOADI, STOREI, ATOMIC with imm16 of 0x8000 or more (44_imm16_and_frames.md R329). Safe. -/
  | imm16Signedness
  /-- COPY whose destination starts inside the source, above its start (44_imm16_and_frames.md R346). Safe. -/
  | copyOverlap
  /-- FILL with a value above 255 (44_imm16_and_frames.md R347). Safe. -/
  | fillValue
  /-- SQRT of a negative (47_extmath_collection.md R462). Safe. -/
  | sqrtNegative
  /-- POW with a negative exponent (47_extmath_collection.md R463). Safe. -/
  | powNegativeExponent
  /-- POW whose result is outside s32 (47_extmath_collection.md R463). Safe. -/
  | powOverflow
  /-- RND with its low bound above its high bound (47_extmath_collection.md R470). Safe. -/
  | rndEmptyRange
  /-- C_THRESH that would skip a reserved slot or ILLEGAL (48_confidence_a2a.md R521). Safe. -/
  | cThreshSkipReserved
  /-- `<name>_NoInterruptModel`: IRET (40_system_control.md R173). Safe. -/
  | noInterruptModel (name : String)
  /-- `<name>_NoHostInterface`: SYS, TRACE, PROF_ON, PROF_OFF (R220, R379 to R381). Safe. -/
  | noHostInterface (name : String)
  /-- `<name>_NoVectorTable`: TRAP (41_single_reg_and_imm.md R221). Safe. -/
  | noVectorTable (name : String)
  /-- `<name>_NoTrapMechanism`: FAULT, HANDLER (45_long_jumps_ext_memory.md R377, R378). Safe. -/
  | noTrapMechanism (name : String)
  /-- `<name>_NoDebugger`: WATCH (45_long_jumps_ext_memory.md R382). Safe. -/
  | noDebugger (name : String)
  /-- `<name>_NoDevice`: the sensor family, MMIO, GPU (R440 to R455, R392, R393, R401 to R404). Safe. -/
  | noDevice (name : String)
  /-- `<name>_NoHandler`: the A2A family (48_confidence_a2a.md R531 to R546). Safe. -/
  | noHandler (name : String)
  /-- `<name>_NameOnly`: 0xF0..0xF9, the vector and tensor families (R180 to R189, R561 to R596). Safe. -/
  | nameOnly (name : String)
  /-- `<name>_Undefined`: the instructions whose state change the spec's source sketches without fixing it. Safe. -/
  | undefinedEffect (name : String)
  /-- `<name>_WeightsUndefined`: C_MERGE (48_confidence_a2a.md R520). Safe. -/
  | weightsUndefined (name : String)
  /-- `<name>_HandleUndefined`: SHA256 (47_extmath_collection.md R469). Safe. -/
  | handleUndefined (name : String)
  /-- `<name>_CollectionUndefined`: LEN to FIND (47_extmath_collection.md R480 to R489). Safe. -/
  | collectionUndefined (name : String)
  /-- `<name>_TypeEncoding`: FENCE (45_long_jumps_ext_memory.md R396). Safe. -/
  | typeEncoding (name : String)
  /-- `<name>_OpEncoding`: MCACHE (45_long_jumps_ext_memory.md R400). Safe. -/
  | opEncoding (name : String)
  deriving DecidableEq, Repr

/-- The two regions the VM creates at initialisation (20_memory.md R80; 10_state.md R66). -/
def defaultRegions : List Region :=
  [⟨"stack", Config.regionSize, "system", []⟩, ⟨"heap", Config.regionSize, "system", []⟩]

/-- The initial state as 70_reset_and_hazards.md R651 builds it from its arguments: the bytecode, INIT_MEM (of each
region's data), the parameters, and the confidence values R651 leaves `any`. -/
def State.initial (code : List Byte) (initMem initHeap : Memory) (params : Params) (conf : Vector Conf 64)
    (cacc : Conf) : State where
  x := (Vector.replicate 48 0).set 11 (BitVec.ofNat 32 Config.stackTop)
  v := Vector.replicate 16 0
  pc := 0
  halted := false
  cycles := 0
  flags := ⟨false, false, false, false⟩
  conf := conf
  cacc := cacc
  mem := initMem
  heap := initHeap
  regions := defaultRegions
  seed := none
  code := code
  params := params
  debugOut := []
  draws := 0

/-- The machine right after initialisation: no bytecode (log 2), memory with nothing listed (log 4, log 5), the default
parameters (log 1), confidence cells at 0 (DESIGN CHOICE, log 7). -/
def State.reset : State :=
  .initial [] [] [] Params.default (Vector.replicate 64 Conf.zero) Conf.zero

end Sys2Proof.Machine
end

