-- ==== Sys2Proof/Machine/Ops.lean ====
section
/-! DEFINITION. The named operations of the machine (spec/00_scope.md R11): memory, registers, the stack, the program
counter, fetching, taking a trap, refusing. -/

namespace Sys2Proof.Machine

/-- What a meaning answers. -/
abbrev Result := Host.Outcome State Fault Refusal

/-! ### Data memory (20_memory.md R83 to R87) -/

/-- The byte at address `a`. -/
def Memory.get : Memory → Nat → Byte
  | [], _ => Memory.unlisted
  | (b, v) :: rest, a => if b = a then v else Memory.get rest a

/-- Store one byte, keeping the canonical form. -/
def Memory.set : Memory → Nat → Byte → Memory
  | [], a, v => if v = Memory.unlisted then [] else [(a, v)]
  | (b, w) :: rest, a, v =>
    if a < b then
      if v = Memory.unlisted then (b, w) :: rest else (a, v) :: (b, w) :: rest
    else if a = b then
      if v = Memory.unlisted then rest else (a, v) :: rest
    else
      (b, w) :: Memory.set rest a v

/-- Canonical from address `lo` on: addresses of `lo` or more, strictly rising, inside MEM_SIZE, no unlisted value. -/
def Memory.wfFrom : Nat → Memory → Bool
  | _, [] => true
  | lo, (a, v) :: rest =>
    decide (lo ≤ a) && decide (a < Config.memSize) && (v != Memory.unlisted) && Memory.wfFrom (a + 1) rest

/-- The canonical form of a memory. -/
def Memory.wf (m : Memory) : Bool := Memory.wfFrom 0 m

/-- Whether the `n` bytes at `a` are all inside M (20_memory.md R84, R86; log 17). -/
def inBounds (a : Int) (n : Nat) : Bool := decide (0 ≤ a) && decide (a + n ≤ Config.memSize)

/-- The `n` bytes from address `a` on. -/
def Memory.bytes (m : Memory) (a : Nat) : Nat → List Byte
  | 0 => []
  | n + 1 => m.get a :: m.bytes (a + 1) n

/-- Store bytes from address `a` on. -/
def Memory.setBytes (m : Memory) (a : Nat) : List Byte → Memory
  | [] => m
  | b :: bs => Memory.setBytes (m.set a b) (a + 1) bs

/-- The little-endian word at `a` (20_memory.md R83, R84). -/
def Memory.word (m : Memory) (a : Nat) : Word :=
  m.get (a + 3) ++ m.get (a + 2) ++ m.get (a + 1) ++ m.get a

/-- The bytes of a word, the least significant first (20_memory.md R83). -/
def wordBytes (v : Word) : List Byte :=
  [v.extractLsb' 0 8, v.extractLsb' 8 8, v.extractLsb' 16 8, v.extractLsb' 24 8]

/-- `MemRead(a, 4)`, none where it faults (20_memory.md R84). -/
def Memory.load32 (m : Memory) (a : Int) : Option Word :=
  if inBounds a 4 then some (m.word a.toNat) else none

/-- `MemWrite(a, 4, v)`, none where it faults (20_memory.md R85). -/
def Memory.store32 (m : Memory) (a : Int) (v : Word) : Option Memory :=
  if inBounds a 4 then some (m.setBytes a.toNat (wordBytes v)) else none

/-- `for k = 0 .. n-1 in increasing order: M[d+k] <- M[s+k]` (44_imm16_and_frames.md R346). -/
def Memory.copyUp (m : Memory) (d s : Nat) : Nat → Memory
  | 0 => m
  | n + 1 => Memory.copyUp (m.set d (m.get s)) (d + 1) (s + 1) n

/-- `for k = 0 .. n-1: M[d+k] <- v` (44_imm16_and_frames.md R347). -/
def Memory.fill (m : Memory) (d : Nat) (v : Byte) : Nat → Memory
  | 0 => m
  | n + 1 => Memory.fill (m.set d v) (d + 1) v n

/-! ### Registers (10_state.md R31 to R37) -/

/-- The 32-bit cell an operand byte names; R0 reads 0 (10_state.md R32). Where the byte names no 32-bit register the
instruction is refused before it reads (R36, R37), and the 0 here is never used. -/
def readX (x : Vector Word 48) (r : Byte) : Word :=
  if h : r.toNat < 48 then (if r = 0 then 0 else x[r.toNat]) else 0

/-- Write a 32-bit cell; a write to R0 is discarded (10_state.md R32). -/
def writeX (x : Vector Word 48) (r : Byte) (v : Word) : Vector Word 48 :=
  if h : r.toNat < 48 then (if r = 0 then x else x.set r.toNat v) else x

/-- `x[r]` (00_scope.md R11). -/
def State.getX (s : State) (r : Byte) : Word := readX s.x r

/-- `x[r] <- v` (00_scope.md R11). -/
def State.setX (s : State) (r : Byte) (v : Word) : State := { s with x := writeX s.x r v }

/-- The number of SP, R11 (10_state.md R33). -/
def spReg : Byte := 11

/-- `SP` (00_scope.md R11). -/
def State.sp (s : State) : Word := s.getX spReg

/-- The confidence cell of a register number (10_state.md R60). A byte of 64 or more is refused before it is read
(10_state.md R37), and the 0 here is never used. -/
def readC (cs : Vector Conf 64) (r : Byte) : Conf :=
  if h : r.toNat < 64 then cs[r.toNat] else Conf.zero

/-- Write a confidence cell; c[0] is an ordinary cell (10_state.md R60; log 41). -/
def writeC (cs : Vector Conf 64) (r : Byte) (k : Conf) : Vector Conf 64 :=
  if h : r.toNat < 64 then cs.set r.toNat k else cs

/-- `c[r]` (00_scope.md R11). -/
def State.getC (s : State) (r : Byte) : Conf := readC s.conf r

/-- `c[r] <- k` (00_scope.md R11). -/
def State.setC (s : State) (r : Byte) (k : Conf) : State := { s with conf := writeC s.conf r k }

/-- `cacc <- k` (10_state.md R61). -/
def State.setCacc (s : State) (k : Conf) : State := { s with cacc := k }

/-- `seed <- v` (47_extmath_collection.md R471). -/
def State.setSeed (s : State) (v : Word) : State := { s with seed := some v }

/-- `M <- m`. -/
def State.setMem (s : State) (m : Memory) : State := { s with mem := m }

/-- `halted <- true` (10_state.md R44). -/
def State.halt (s : State) : State := { s with halted := true }

/-- `emit DebugPrint(r, v)` (41_single_reg_and_imm.md R222; log 34). -/
def State.emit (s : State) (r : Byte) (v : Word) : State := { s with debugOut := s.debugOut ++ [⟨r, v⟩] }

/-- One draw has been taken (log 8). -/
def State.drew (s : State) : State := { s with draws := s.draws + 1 }

/-- `for i in 1..63: x[i] <- 0` (40_system_control.md R176). The cell of R0 is never read. -/
def State.clearRegs (s : State) : State :=
  { s with x := Vector.replicate 48 0, v := Vector.replicate 16 0 }

/-! ### The program counter and the end of an instruction (10_state.md R41 to R45) -/

/-- `npc = pc + L` (10_state.md R42). -/
def State.npc (s : State) (length : Nat) : Int := s.pc + length

/-- `pc <- t` (00_scope.md R11). -/
def State.setPc (s : State) (t : Int) : State := { s with pc := t }

/-- `pc <- npc`, the end of an instruction that assigns no `pc` (10_state.md R41). -/
def State.advance (s : State) (length : Nat) : State := s.setPc (s.npc length)

/-- `cycles <- cycles + 1` (10_state.md R45). -/
def State.tick (s : State) : State := { s with cycles := s.cycles + 1 }

/-- The end of a run at which the loop takes no step (10_state.md R41; 70_reset_and_hazards.md R656). -/
def State.ended (s : State) : Bool := s.halted || decide (s.params.maxCycles ≤ s.cycles)

/-- The bytes at and after `a` in the bytecode; none outside `0 .. CODE_LEN-1` (10_state.md R43; log 18). -/
def State.codeFrom (s : State) (a : Int) : List Byte :=
  if a < 0 then [] else s.code.drop a.toNat

/-! ### Stops -/

/-- Taking a trap: the terminal fault, with the state as it was before the instruction (60_exceptions.md R601; log 14).
No handler is entered and nothing returns from one (R614). -/
def raise (f : Fault) : Result := .fault f

/-- The refused end state (60_exceptions.md R602). -/
def refuse (r : Refusal) : Result := .refused r

/-- Fetch and decode at `pc` (10_state.md R41, R43; 60_exceptions.md R613 (2) to (4)). -/
def fetchInstr (s : State) : Except Fault Instr :=
  match decode s.params.imm16Order (s.codeFrom s.pc) with
  | .ok (i, _) => .ok i
  | .error _ => .error (.fetchFault s.pc)

/-! ### Accesses that may trap -/

/-- `v = MemRead(a, 4)`, then `k v` (20_memory.md R84). -/
def withLoad (s : State) (a : Int) (k : Word → Result) : Result :=
  match s.mem.load32 a with
  | some v => k v
  | none => raise (.memoryFault a)

/-- `MemWrite(a, 4, v)`, then `k` in the state after it (20_memory.md R85). -/
def withStore (s : State) (a : Int) (v : Word) (k : State → Result) : Result :=
  match s.mem.store32 a v with
  | some m => k (s.setMem m)
  | none => raise (.memoryFault a)

/-- The address `Push` stores to: `wrap32(u32(SP) - 4)` (20_memory.md R92; log 24). -/
def State.pushAddr (s : State) : Word := s.sp - 4

/-- `Push(v)`, then `k` in the state after it (20_memory.md R92). -/
def withPush (s : State) (v : Word) (k : State → Result) : Result :=
  withStore s (u32 s.pushAddr) v fun t => k (t.setX spReg s.pushAddr)

/-- `v = Pop()`, then `k v` in the state after it (20_memory.md R93). -/
def withPop (s : State) (k : Word → State → Result) : Result :=
  withLoad s (u32 s.sp) fun v => k v (s.setX spReg (s.sp + 4))

end Sys2Proof.Machine
end

