-- ==== Sys2Proof/Machine/Flags.lean ====
section
/-! DEFINITION. The flag computations (spec/10_state.md R46 to R51; 47_extmath_collection.md R459). A flag the spec calls
`any` is a draw: a constant without a body applied to `State.draws` (log 8, log 22). -/

namespace Sys2Proof.Machine

/-- The result `Z <- (r = 0)`. -/
def zeroFlag (r : Word) : Bool := r == 0

/-- The result `S <- r[31]`. -/
def signFlag (r : Word) : Bool := r.msb

/-- `SetFlagsZS(r)`: Z and S from `r`, C and O any (10_state.md R47). -/
def State.setFlagsZS (s : State) (r : Word) : State :=
  { s.drew with flags := ⟨zeroFlag r, signFlag r, Config.anyC s.draws, Config.anyO s.draws⟩ }

/-- `FlagsAny()`: all four flags any (10_state.md R49). -/
def State.flagsAny (s : State) : State :=
  { s.drew with flags := ⟨Config.anyZ s.draws, Config.anyS s.draws, Config.anyC s.draws, Config.anyO s.draws⟩ }

/-- `Z <- (r = 0)`, the other flags unchanged (47_extmath_collection.md R459; log 23). -/
def State.setFlagZ (s : State) (r : Word) : State := { s with flags := { s.flags with z := zeroFlag r } }

/-- `Z <- (r = 0); S <- r[31]`, C and O unchanged (47_extmath_collection.md R459; log 23). -/
def State.setFlagsZAndS (s : State) (r : Word) : State :=
  { s with flags := { s.flags with z := zeroFlag r, s := signFlag r } }

/-- `Z <- any`, the other flags unchanged (47_extmath_collection.md R466). -/
def State.flagZAny (s : State) : State := { s.drew with flags := { s.flags with z := Config.anyZ s.draws } }

/-- `Z <- (r = 0x80000000) ? any : (r = 0)`, the other flags unchanged (47_extmath_collection.md R459, R472). -/
def State.setFlagZFloat (s : State) (r : Word) : State :=
  { s with
    flags := { s.flags with z := if r = 0x80000000 then Config.anyZ s.draws else zeroFlag r }
    draws := if r = 0x80000000 then s.draws + 1 else s.draws }

/-- The flags CLF leaves: those the mask selects are 0, the others unchanged (10_state.md R51; log 32). -/
def clearedFlags (b : FlagBits) (mask : Byte) (f : Flags) : Flags where
  z := f.z && !mask.getLsbD b.z
  s := f.s && !mask.getLsbD b.s
  c := f.c && !mask.getLsbD b.c
  o := f.o && !mask.getLsbD b.o

/-- CLF's change of the flags (41_single_reg_and_imm.md R223). -/
def State.clearFlags (s : State) (mask : Byte) : State :=
  { s with flags := clearedFlags s.params.flagBit mask s.flags }

end Sys2Proof.Machine
end

