-- ==== Sys2Proof/Machine/Arith.lean ====
section
/-! DEFINITION. The integer computations (spec/41_single_reg_and_imm.md, 42_integer_arithmetic.md R250 to R270,
47_extmath_collection.md R460 to R470), on 32-bit patterns that wrap. -/

namespace Sys2Proof.Machine

/-- `wrap32(u32(v) * 2^n)` (42_integer_arithmetic.md R259). -/
def shiftLeft (v : Word) (n : Nat) : Word := v <<< n

/-- `wrap32(floor(s32(v) / 2^n))` (42_integer_arithmetic.md R260). -/
def shiftRightArith (v : Word) (n : Nat) : Word := v.sshiftRight n

/-- `x[rs2][5:0]`, the count of SHL and SHR (42_integer_arithmetic.md R259; log 28). -/
def shiftCount (v : Word) : Nat := (v.extractLsb' 0 6).toNat

/-- `trunc(a / b)` or `floor(a / b)` (42_integer_arithmetic.md R254; log 43). -/
def quotient (m : DivMode) (a b : Int) : Int :=
  match m with
  | .trunc => a.tdiv b
  | .floor => a.fdiv b

/-- `a - q * b` (42_integer_arithmetic.md R255). -/
def remainder (m : DivMode) (a b : Int) : Int := a - quotient m a b * b

/-- MIN (42_integer_arithmetic.md R261). -/
def minSigned (a b : Word) : Word := if s32 a ≤ s32 b then a else b

/-- MAX (42_integer_arithmetic.md R262). -/
def maxSigned (a b : Word) : Word := if s32 b ≤ s32 a then a else b

/-- A comparison's 1 or 0 (42_integer_arithmetic.md R263). -/
def truth (b : Bool) : Word := if b then 1 else 0

/-- ABS (47_extmath_collection.md R460). -/
def absSigned (v : Word) : Word := wrap32 (if s32 v < 0 then -s32 v else s32 v)

/-- SIGN (47_extmath_collection.md R461). -/
def signOf (v : Word) : Word := if s32 v < 0 then 0xFFFFFFFF else if v = 0 then 0 else 1

/-- One bit after another from `2^(k-1)` down: the largest `n` with `n * n ≤ a` that agrees with `r` above bit `k`. -/
def isqrtFrom (a : Nat) : Nat → Nat → Nat
  | 0, r => r
  | k + 1, r => isqrtFrom a k (if (r + 2 ^ k) * (r + 2 ^ k) ≤ a then r + 2 ^ k else r)

/-- The largest `n` with `n * n ≤ a`, for `a` below `2^(2 bits)` (47_extmath_collection.md R462). -/
def isqrt (bits a : Nat) : Nat := isqrtFrom a bits 0

/-- `a ^ b` when it is in -2^31..2^31-1, none otherwise, with `a ^ 0 = 1` for every `a` (47_extmath_collection.md R463;
log 40). Where `b` is above 31 and `a` none of -1, 0, 1, it is outside. -/
def powSigned (a : Int) (b : Nat) : Option Int :=
  if a = 0 then some (if b = 0 then 1 else 0)
  else if a = 1 then some 1
  else if a = -1 then some (if b % 2 = 0 then 1 else -1)
  else if 31 < b then none
  else if -2 ^ 31 ≤ a ^ b ∧ a ^ b ≤ 2 ^ 31 - 1 then some (a ^ b) else none

/-- The index of the highest set bit of a value that is not 0 (47_extmath_collection.md R464, R465). -/
def highestBit (v : Word) : Nat := Nat.log2 v.toNat

/-- CLZ (47_extmath_collection.md R465). -/
def leadingZeros (v : Word) : Nat := if v = 0 then 32 else 31 - highestBit v

/-- The number of zero bits below the lowest set bit among bits `i .. i + n - 1`, `n` if none is set. -/
def trailingFrom (v : Word) (i : Nat) : Nat → Nat
  | 0 => 0
  | n + 1 => if v.getLsbD i then 0 else trailingFrom v (i + 1) n + 1

/-- The index of the lowest set bit of a value that is not 0 (47_extmath_collection.md R466). -/
def lowestBit (v : Word) : Nat := trailingFrom v 0 32

/-- The number of set bits among bits `0 .. n - 1`. -/
def onesBelow (v : Word) : Nat → Nat
  | 0 => 0
  | n + 1 => (if v.getLsbD n then 1 else 0) + onesBelow v n

/-- POPCNT (47_extmath_collection.md R467). -/
def popCount (v : Word) : Nat := onesBelow v 32

/-- One bit of the reflected CRC-32, polynomial 0xEDB88320 (47_extmath_collection.md R468). -/
def crcBit (v : Word) : Word := if v.getLsbD 0 then (v >>> 1) ^^^ 0xEDB88320 else v >>> 1

/-- `n` bits of the reflected CRC-32. -/
def crcBits : Nat → Word → Word
  | 0, v => v
  | n + 1, v => crcBits n (crcBit v)

/-- One byte of the reflected CRC-32. -/
def crcByte (v : Word) (b : Byte) : Word := crcBits 8 (v ^^^ b.setWidth 32)

/-- The common CRC-32: initial value and final XOR 0xFFFFFFFF (47_extmath_collection.md R468). -/
def crcCommon (bs : List Byte) : Word := bs.foldl crcByte 0xFFFFFFFF ^^^ 0xFFFFFFFF

/-- `CRC32_FN(bytes)` (47_extmath_collection.md R468; log 11). -/
def crc32 (p : Crc32Param) (bs : List Byte) : Word :=
  match p with
  | .anyFunction => Config.crc32 bs
  | .common => crcCommon bs

/-- A value in `lo .. hi` that the draw `w` selects (47_extmath_collection.md R470; log 37). Every value of the range is
that of some `w`: the range holds at most 2^32 values. -/
def inRange (lo hi : Int) (w : Word) : Word := wrap32 (lo + (u32 w : Int) % (hi - lo + 1))

end Sys2Proof.Machine
end

