-- ==== Sys2Proof/Machine/Float.lean ====
section
/-! DEFINITION. FNUM, the binary32 arithmetic (spec/43_float_memory_control.md R291; log 9). Where the laws (a) to (d) of
R291 fix a result it is computed exactly on integers; everywhere else it is a constant of Config without a body. A finite
value is an integer multiple of 2^-149, the smallest subnormal. -/

namespace Sys2Proof.Machine

namespace Fnum

/-- Bits 30..23 (R291). -/
def exponent (p : Word) : Nat := (p.extractLsb' 23 8).toNat

/-- Bits 22..0 (R291). -/
def fraction (p : Word) : Nat := (p.extractLsb' 0 23).toNat

/-- `isZero(p)`: `p[30:0] = 0`, both +0.0 and -0.0 (R291). -/
def isZero (p : Word) : Bool := p.extractLsb' 0 31 == 0

/-- `isNaN(p)` (R291). -/
def isNaN (p : Word) : Bool := exponent p == 255 && fraction p != 0

/-- Neither a NaN nor an infinity. -/
def isFinite (p : Word) : Bool := exponent p != 255

/-- `isNeg(p)` (R291). -/
def isNeg (p : Word) : Bool := p.msb && !isNaN p && !isZero p

/-- The magnitude of a finite value in units of 2^-149 (R291). -/
def magnitude (p : Word) : Nat :=
  if exponent p = 0 then fraction p else (2 ^ 23 + fraction p) * 2 ^ (exponent p - 1)

/-- One in units of 2^-149. -/
def unit : Nat := 2 ^ 149

/-- The value of a finite pattern in units of 2^-149 (R291). -/
def value (p : Word) : Int := if p.msb then -(magnitude p : Int) else magnitude p

/-- `isIntegral(p)`: finite, and a mathematical integer (R291). -/
def isIntegral (p : Word) : Bool := isFinite p && magnitude p % unit == 0

/-- The pattern of sign, exponent and fraction. -/
def pattern (negative : Bool) (e f : Nat) : Word :=
  BitVec.ofBool negative ++ BitVec.ofNat 8 e ++ BitVec.ofNat 23 f

/-- The pattern of `n` units of 2^-149 when that value is not zero and binary32 holds it exactly (R291 (a)). -/
def exactPattern (n : Int) : Option Word :=
  let m := n.natAbs
  let shift := Nat.log2 m - 23
  if m = 0 then none
  else if m < 2 ^ 23 then some (pattern (decide (n < 0)) 0 m)
  else if m % 2 ^ shift ≠ 0 ∨ 253 < shift then none
  else some (pattern (decide (n < 0)) (shift + 1) (m / 2 ^ shift - 2 ^ 23))

/-- The exact result when both operands are finite and law (a) fixes it, else the free value (R291 (a)). -/
def exactOr2 (a b : Word) (n : Option Int) (free : Word) : Word :=
  if isFinite a && isFinite b then (n.bind exactPattern).getD free else free

/-- `n / d` when `d` divides `n`. -/
def divExact (n d : Int) : Option Int := if n % d = 0 then some (n / d) else none

/-- `FNUM.add`. -/
def add (a b : Word) : Word := exactOr2 a b (some (value a + value b)) (Config.fadd a b)

/-- `FNUM.sub`. -/
def sub (a b : Word) : Word := exactOr2 a b (some (value a - value b)) (Config.fsub a b)

/-- `FNUM.mul`: the product of the two values, when it is a multiple of 2^-149. -/
def mul (a b : Word) : Word := exactOr2 a b (divExact (value a * value b) unit) (Config.fmul a b)

/-- `FNUM.div`: the quotient, when it is a multiple of 2^-149. A zero divisor traps before it is asked (R295). -/
def div (a b : Word) : Word :=
  exactOr2 a b (if value b = 0 then none else divExact (value a * unit) (value b)) (Config.fdiv a b)

/-- `FNUM.min` (R291 (d)). -/
def min (a b : Word) : Word :=
  if isFinite a && isFinite b && decide (value a < value b) then a
  else if isFinite a && isFinite b && decide (value b < value a) then b
  else Config.fmin a b

/-- `FNUM.max` (R291 (d)). -/
def max (a b : Word) : Word :=
  if isFinite a && isFinite b && decide (value a < value b) then b
  else if isFinite a && isFinite b && decide (value b < value a) then a
  else Config.fmax a b

/-- `p` with the sign bit of `a`, unless `p` is a zero (R291 (c)). -/
def withSignOf (a p : Word) : Word :=
  if isZero p then p else BitVec.ofBool a.msb ++ p.extractLsb' 0 31

/-- `FNUM.fmod` (R291 (c)). -/
def fmod (a b : Word) : Word :=
  if isFinite a && !isNaN b && !isZero b then withSignOf a (Config.fmod a b) else Config.fmod a b

/-- The root of a value in units of 2^-149 that is a square in those units. -/
def rootExact (m : Nat) : Option Int :=
  let r := isqrt 214 (m * unit)
  if r * r = m * unit then some r else none

/-- `FNUM.sqrt`. A negative operand traps before it is asked (47_extmath_collection.md R473). -/
def sqrt (a : Word) : Word :=
  if isFinite a && !isNeg a then ((rootExact (magnitude a)).bind exactPattern).getD (Config.fsqrt a)
  else Config.fsqrt a

/-- `FNUM.sin`: no law fixes it (47_extmath_collection.md R474). -/
def sin (a : Word) : Word := Config.fsin a

/-- `FNUM.cos`: no law fixes it (47_extmath_collection.md R475). -/
def cos (a : Word) : Word := Config.fcos a

/-- `FNUM.ofInt` (R291 (a); R299). -/
def ofInt (v : Word) : Word := (exactPattern (s32 v * unit)).getD (Config.fofInt v)

/-- `FNUM.toInt` as R298 uses it: none where the result is `Invalid` (a NaN, an infinity, an integral value outside s32),
the integer where law (b) fixes it, a free value for a finite value that is not integral (log 9). -/
def toInt (p : Word) : Option Word :=
  if !isFinite p then none
  else if !isIntegral p then some (Config.ftoInt p)
  else if -2 ^ 31 ≤ value p / unit ∧ value p / unit ≤ 2 ^ 31 - 1 then some (wrap32 (value p / unit))
  else none

end Fnum

end Sys2Proof.Machine
end

