-- ==== Sys2Proof/Machine/Operands.lean ====
section
/-! DEFINITION. The operand forms: validation of the register bytes a rule uses (spec/10_state.md R36, R37;
60_exceptions.md R613 (6)), the readings of the immediates (30_encoding.md R132, R133), effective addresses
(20_memory.md R86), and the ways an instruction ends with a result. -/

namespace Sys2Proof.Machine

/-! ### Register operands -/

/-- Whether some byte names no register (10_state.md R37). -/
def someOutOfRange (n : RegCount) (rs : List Byte) : Bool := rs.any fun r => decide (n.count ≤ r.toNat)

/-- Whether some byte names a vector register (10_state.md R36). Asked only of bytes that name a register. -/
def someVector (rs : List Byte) : Bool := rs.any fun r => decide (48 ≤ r.toNat)

/-- What validation refuses of bytes that are all in 32-bit positions (60_exceptions.md R613 (6)). -/
def regRefusal (n : RegCount) (rs : List Byte) : Option Refusal :=
  if someOutOfRange n rs then some .registerOutOfRange
  else if someVector rs then some .vectorRegisterAs32Bit
  else none

/-- Validation of the used register bytes, all in 32-bit positions, then `k` (60_exceptions.md R613 (6)). -/
def withRegs (s : State) (rs : List Byte) (k : Result) : Result :=
  match regRefusal s.params.nreg rs with
  | some r => refuse r
  | none => k

/-- Validation of a byte that selects a confidence cell and no 32-bit value, then `k`
(41_single_reg_and_imm.md R216; 48_confidence_a2a.md R521). -/
def withCell (s : State) (r : Byte) (k : Result) : Result :=
  if someOutOfRange s.params.nreg [r] then refuse .registerOutOfRange else k

/-! ### Immediates -/

/-- `sext_8(imm8)`, as the 32-bit pattern that is added (30_encoding.md R132). -/
def sext8 (i : Byte) : Word := i.signExtend 32

/-- `zext_8(imm8)` (30_encoding.md R132). -/
def zext8 (i : Byte) : Word := i.setWidth 32

/-- `zext_16(imm16)` (30_encoding.md R133). -/
def zext16 (i : Half) : Word := i.setWidth 32

/-- `sext_16(imm16)` (30_encoding.md R133). -/
def sext16 (i : Half) : Int := i.toInt

/-- LOOP, SELECT, LOADI, STOREI, ATOMIC: the imm16 whose two readings agree, then `k` with it
(44_imm16_and_frames.md R329; log 29). -/
def withAgreedImm16 (i : Half) (k : Nat → Result) : Result :=
  if 0x8000 ≤ i.toNat then refuse .imm16Signedness else k i.toNat

/-- SHLI, SHRI: the count 0..63, then `k` with it (41_single_reg_and_imm.md R236, R237; log 28). -/
def withShiftCount (i : Byte) (k : Nat → Result) : Result :=
  if 63 < i.toNat then refuse .shiftCount else k i.toNat

/-! ### Effective addresses, as mathematical integers (20_memory.md R86; log 17) -/

/-- `s32(x[rs1]) + s32(x[rs2])` (43_float_memory_control.md R300). -/
def State.indexedAddr (s : State) (rs1 rs2 : Byte) : Int := s32 (s.getX rs1) + s32 (s.getX rs2)

/-- `s32(x[rs1]) + k` (44_imm16_and_frames.md R340; 45_long_jumps_ext_memory.md R394). -/
def State.offsetAddr (s : State) (rs1 : Byte) (k : Int) : Int := s32 (s.getX rs1) + k

/-- `s32(x[r])`, an address held in a register (44_imm16_and_frames.md R346). -/
def State.regAddr (s : State) (r : Byte) : Int := s32 (s.getX r)

/-- The check that `n` bytes from `a` on are inside M, then `k` (20_memory.md R86). -/
def withRange (a : Int) (n : Nat) (k : Result) : Result :=
  if inBounds a n then k else raise (.memoryFault a)

/-! ### How an instruction ends with a result -/

/-- The end of an instruction of `len` bytes that assigns no `pc` (10_state.md R41). -/
def finish (s : State) (len : Nat) : Result := .next (s.advance len)

/-- `x[rd] <- r; SetFlagsZS(r); pc <- npc`. -/
def finishZS (s : State) (rd : Byte) (r : Word) (len : Nat) : Result := finish ((s.setX rd r).setFlagsZS r) len

/-- `x[rd] <- r; FlagsAny(); pc <- npc`. -/
def finishAny (s : State) (rd : Byte) (r : Word) (len : Nat) : Result := finish ((s.setX rd r).flagsAny) len

/-- `x[rd] <- r; pc <- npc`, flags unchanged. -/
def finishX (s : State) (rd : Byte) (r : Word) (len : Nat) : Result := finish (s.setX rd r) len

/-- `x[rd] <- r; Z <- (r = 0); pc <- npc`. -/
def finishZ (s : State) (rd : Byte) (r : Word) (len : Nat) : Result := finish ((s.setX rd r).setFlagZ r) len

/-- `x[rd] <- r; Z <- (r = 0); S <- r[31]; pc <- npc`. -/
def finishZAndS (s : State) (rd : Byte) (r : Word) (len : Nat) : Result :=
  finish ((s.setX rd r).setFlagsZAndS r) len

/-- `x[rd] <- r; Z <- (r = 0x80000000) ? any : (r = 0); pc <- npc`. -/
def finishZFloat (s : State) (rd : Byte) (r : Word) (len : Nat) : Result :=
  finish ((s.setX rd r).setFlagZFloat r) len

/-- `pc <- npc + k` of an instruction of `len` bytes (10_state.md R42). -/
def State.jumpBy (s : State) (len : Nat) (k : Int) : State := s.setPc (s.npc len + k)

/-- `if taken then pc <- npc + s32(x[r]) else pc <- npc` (43_float_memory_control.md R304; log 26). -/
def finishBranch (s : State) (len : Nat) (taken : Bool) (r : Byte) : Result :=
  if taken then .next (s.jumpBy len (s32 (s.getX r))) else finish s len

/-! ### Instruction shapes that many rows share -/

/-- `x[rd] <- f(x[rs1], x[rs2]); SetFlagsZS` (42_integer_arithmetic.md R250). -/
def binaryZS (f : Word → Word → Word) (rd rs1 rs2 : Byte) (s : State) : Result :=
  withRegs s [rd, rs1, rs2] (finishZS s rd (f (s.getX rs1) (s.getX rs2)) 4)

/-- `x[rd] <- f(x[rs1], x[rs2]); FlagsAny()` (42_integer_arithmetic.md R250; 43_float_memory_control.md R292). -/
def binaryAny (f : Word → Word → Word) (rd rs1 rs2 : Byte) (s : State) : Result :=
  withRegs s [rd, rs1, rs2] (finishAny s rd (f (s.getX rs1) (s.getX rs2)) 4)

/-- `x[rd] <- f(x[rd]); SetFlagsZS` of a Format B instruction (41_single_reg_and_imm.md R210). -/
def updateZS (f : Word → Word) (rd : Byte) (s : State) : Result :=
  withRegs s [rd] (finishZS s rd (f (s.getX rd)) 2)

/-- `x[rd] <- f(x[rd]); FlagsAny()` of an instruction of `len` bytes (41_single_reg_and_imm.md R231). -/
def updateAny (f : Word → Word) (rd : Byte) (len : Nat) (s : State) : Result :=
  withRegs s [rd] (finishAny s rd (f (s.getX rd)) len)

/-- `x[rd] <- f(x[rs1]); Z <- (r = 0)` (47_extmath_collection.md R459). -/
def unaryZ (f : Word → Word) (rd rs1 : Byte) (s : State) : Result :=
  withRegs s [rd, rs1] (finishZ s rd (f (s.getX rs1)) 4)

/-- `x[rd] <- f(x[rs1])` and the Z flag of a float result (47_extmath_collection.md R474). -/
def unaryZFloat (f : Word → Word) (rd rs1 : Byte) (s : State) : Result :=
  withRegs s [rd, rs1] (finishZFloat s rd (f (s.getX rs1)) 4)

/-- A register-conditional branch (43_float_memory_control.md R304 to R307; log 26). -/
def branchIf (test : Word → Bool) (rd rs1 : Byte) (s : State) : Result :=
  withRegs s [rd, rs1] (finishBranch s 4 (test (s.getX rd)) rs1)

/-- `pc <- npc + sext_16(imm16)` (44_imm16_and_frames.md R333; 45_long_jumps_ext_memory.md R370). -/
def jumpRelative (imm16 : Half) (s : State) : Result := .next (s.jumpBy 4 (sext16 imm16))

/-- `x[rd] <- npc; pc <- npc + sext_16(imm16)` (44_imm16_and_frames.md R334; 45_long_jumps_ext_memory.md R371; log 27). -/
def jumpAndLink (rd : Byte) (imm16 : Half) (s : State) : Result :=
  withRegs s [rd] (.next ((s.setX rd (wrap32 (s.npc 4))).jumpBy 4 (sext16 imm16)))

/-- `t = s32(x[rd]) + sext_16(imm16); Push(npc); pc <- t` (44_imm16_and_frames.md R335; 45_long_jumps_ext_memory.md R372;
log 27). -/
def callIndirect (rd : Byte) (imm16 : Half) (s : State) : Result :=
  withRegs s [rd] (withPush s (wrap32 (s.npc 4)) fun t => .next (t.setPc (s.offsetAddr rd (sext16 imm16))))

/-- A division that traps on a zero divisor, then `k` (42_integer_arithmetic.md R254, R255). -/
def withDivisor (s : State) (rs2 : Byte) (k : Result) : Result :=
  if s32 (s.getX rs2) = 0 then raise (.divideByZero s.pc) else k

/-- A float division that traps on a zero divisor of either sign, then `k` (43_float_memory_control.md R295). -/
def withFloatDivisor (s : State) (rs2 : Byte) (k : Result) : Result :=
  if Fnum.isZero (s.getX rs2) then raise (.divideByZero s.pc) else k

/-- `pc` moves past the instruction after this one of `len` bytes, by its opcode byte alone (48_confidence_a2a.md R521;
log 36). -/
def skipNext (s : State) (len : Nat) : Result :=
  match s.codeFrom (s.npc len) with
  | [] => raise (.fetchFault (s.npc len))
  | op :: _ =>
    match opLength op with
    | none => refuse .cThreshSkipReserved
    | some skipped => .next (s.setPc (s.npc len + skipped))

/-- COPY's move of `n` bytes from `a` to `d`, the checks in the order of the pseudocode (44_imm16_and_frames.md R346; log 30). -/
def copyBytes (s : State) (d a : Int) (n : Nat) : Result :=
  if n = 0 then finish s 5
  else withRange d n <| withRange a n <|
    if a < d ∧ d < a + n then refuse .copyOverlap
    else finish (s.setMem (s.mem.copyUp d.toNat a.toNat n)) 5

/-- FILL's store of `n` bytes at `d` (44_imm16_and_frames.md R347: "the value check comes before the count check, so a bad
value is refused even for `n = 0`"; log 30). -/
def fillBytes (s : State) (d : Int) (v : Word) (n : Nat) : Result :=
  if 255 < u32 v then refuse .fillValue
  else if n = 0 then finish s 5
  else withRange d n <| finish (s.setMem (s.mem.fill d.toNat (v.setWidth 8) n)) 5

end Sys2Proof.Machine
end

