-- ==== Sys2Proof/Machine/Agents.lean ====
section
/-! DEFINITION. Agent-to-agent, 0x50..0x5F (Format E) (spec/48_confidence_a2a.md). -/

namespace Sys2Proof.Machine

/-- TELL (48_confidence_a2a.md R531): `refuse(TELL_NoHandler)` (log 15). -/
def execTell (_rd _rs1 _rs2 : Byte) (_s : State) : Result := refuse (.noHandler "TELL")

/-- ASK (48_confidence_a2a.md R532): `refuse(ASK_NoHandler)` (log 15). -/
def execAsk (_rd _rs1 _rs2 : Byte) (_s : State) : Result := refuse (.noHandler "ASK")

/-- DELEG (48_confidence_a2a.md R533): `refuse(DELEG_NoHandler)` (log 15). -/
def execDeleg (_rd _rs1 _rs2 : Byte) (_s : State) : Result := refuse (.noHandler "DELEG")

/-- BCAST (48_confidence_a2a.md R534): `refuse(BCAST_NoHandler)` (log 15). -/
def execBcast (_rd _rs1 _rs2 : Byte) (_s : State) : Result := refuse (.noHandler "BCAST")

/-- ACCEPT (48_confidence_a2a.md R535): `refuse(ACCEPT_NoHandler)` (log 15). -/
def execAccept (_rd _rs1 _rs2 : Byte) (_s : State) : Result := refuse (.noHandler "ACCEPT")

/-- DECLINE (48_confidence_a2a.md R536): `refuse(DECLINE_NoHandler)` (log 15). -/
def execDecline (_rd _rs1 _rs2 : Byte) (_s : State) : Result := refuse (.noHandler "DECLINE")

/-- REPORT (48_confidence_a2a.md R537): `refuse(REPORT_NoHandler)` (log 15). -/
def execReport (_rd _rs1 _rs2 : Byte) (_s : State) : Result := refuse (.noHandler "REPORT")

/-- MERGE (48_confidence_a2a.md R538): `refuse(MERGE_NoHandler)` (log 15). -/
def execMerge (_rd _rs1 _rs2 : Byte) (_s : State) : Result := refuse (.noHandler "MERGE")

/-- FORK (48_confidence_a2a.md R539): `refuse(FORK_NoHandler)` (log 15). -/
def execFork (_rd _rs1 _rs2 : Byte) (_s : State) : Result := refuse (.noHandler "FORK")

/-- JOIN (48_confidence_a2a.md R540): `refuse(JOIN_NoHandler)` (log 15). -/
def execJoin (_rd _rs1 _rs2 : Byte) (_s : State) : Result := refuse (.noHandler "JOIN")

/-- SIGNAL (48_confidence_a2a.md R541): `refuse(SIGNAL_NoHandler)` (log 15). -/
def execSignal (_rd _rs1 _rs2 : Byte) (_s : State) : Result := refuse (.noHandler "SIGNAL")

/-- AWAIT (48_confidence_a2a.md R542): `refuse(AWAIT_NoHandler)` (log 15). -/
def execAwait (_rd _rs1 _rs2 : Byte) (_s : State) : Result := refuse (.noHandler "AWAIT")

/-- TRUST (48_confidence_a2a.md R543): `refuse(TRUST_NoHandler)` (log 15). -/
def execTrust (_rd _rs1 _rs2 : Byte) (_s : State) : Result := refuse (.noHandler "TRUST")

/-- DISCOV (48_confidence_a2a.md R544): `refuse(DISCOV_NoHandler)` (log 15). -/
def execDiscov (_rd _rs1 _rs2 : Byte) (_s : State) : Result := refuse (.noHandler "DISCOV")

/-- STATUS (48_confidence_a2a.md R545): `refuse(STATUS_NoHandler)` (log 15). -/
def execStatus (_rd _rs1 _rs2 : Byte) (_s : State) : Result := refuse (.noHandler "STATUS")

/-- HEARTBT (48_confidence_a2a.md R546): `refuse(HEARTBT_NoHandler)` (log 15). -/
def execHeartbt (_rd _rs1 _rs2 : Byte) (_s : State) : Result := refuse (.noHandler "HEARTBT")

end Sys2Proof.Machine
end

