-- ==== Sys2Proof/Machine/Collection.lean ====
section
/-! DEFINITION. Collections and crypto, 0xA0..0xAF (Format E; LEN: D, SLICE: G) (spec/47_extmath_collection.md). -/

namespace Sys2Proof.Machine

/-- LEN (47_extmath_collection.md R480): `refuse(LEN_CollectionUndefined)` (log 15). -/
def execLen (_rd _imm8 : Byte) (_s : State) : Result := refuse (.collectionUndefined "LEN")

/-- CONCAT (47_extmath_collection.md R481): `refuse(CONCAT_CollectionUndefined)` (log 15). -/
def execConcat (_rd _rs1 _rs2 : Byte) (_s : State) : Result := refuse (.collectionUndefined "CONCAT")

/-- AT (47_extmath_collection.md R482): `refuse(AT_CollectionUndefined)` (log 15). -/
def execCollAt (_rd _rs1 _rs2 : Byte) (_s : State) : Result := refuse (.collectionUndefined "AT")

/-- SETAT (47_extmath_collection.md R483): `refuse(SETAT_CollectionUndefined)` (log 15). -/
def execSetat (_rd _rs1 _rs2 : Byte) (_s : State) : Result := refuse (.collectionUndefined "SETAT")

/-- SLICE (47_extmath_collection.md R484): `refuse(SLICE_CollectionUndefined)` (log 15). -/
def execSlice (_rd _rs1 : Byte) (_imm16 : Half) (_s : State) : Result := refuse (.collectionUndefined "SLICE")

/-- REDUCE (47_extmath_collection.md R485): `refuse(REDUCE_CollectionUndefined)` (log 15). -/
def execReduce (_rd _rs1 _rs2 : Byte) (_s : State) : Result := refuse (.collectionUndefined "REDUCE")

/-- MAP (47_extmath_collection.md R486): `refuse(MAP_CollectionUndefined)` (log 15). -/
def execMap (_rd _rs1 _rs2 : Byte) (_s : State) : Result := refuse (.collectionUndefined "MAP")

/-- FILTER (47_extmath_collection.md R487): `refuse(FILTER_CollectionUndefined)` (log 15). -/
def execFilter (_rd _rs1 _rs2 : Byte) (_s : State) : Result := refuse (.collectionUndefined "FILTER")

/-- SORT (47_extmath_collection.md R488): `refuse(SORT_CollectionUndefined)` (log 15). -/
def execSort (_rd _rs1 _rs2 : Byte) (_s : State) : Result := refuse (.collectionUndefined "SORT")

/-- FIND (47_extmath_collection.md R489): `refuse(FIND_CollectionUndefined)` (log 15). -/
def execFind (_rd _rs1 _rs2 : Byte) (_s : State) : Result := refuse (.collectionUndefined "FIND")

/-- HASH (47_extmath_collection.md R490): `refuse(HASH_Undefined)` (log 15). -/
def execHash (_rd _rs1 _rs2 : Byte) (_s : State) : Result := refuse (.undefinedEffect "HASH")

/-- HMAC (47_extmath_collection.md R491): `refuse(HMAC_Undefined)` (log 15). -/
def execHmac (_rd _rs1 _rs2 : Byte) (_s : State) : Result := refuse (.undefinedEffect "HMAC")

/-- VERIFY (47_extmath_collection.md R492): `refuse(VERIFY_Undefined)` (log 15). -/
def execVerify (_rd _rs1 _rs2 : Byte) (_s : State) : Result := refuse (.undefinedEffect "VERIFY")

/-- ENCRYPT (47_extmath_collection.md R493): `refuse(ENCRYPT_Undefined)` (log 15). -/
def execEncrypt (_rd _rs1 _rs2 : Byte) (_s : State) : Result := refuse (.undefinedEffect "ENCRYPT")

/-- DECRYPT (47_extmath_collection.md R494): `refuse(DECRYPT_Undefined)` (log 15). -/
def execDecrypt (_rd _rs1 _rs2 : Byte) (_s : State) : Result := refuse (.undefinedEffect "DECRYPT")

/-- KEYGEN (47_extmath_collection.md R495): `refuse(KEYGEN_Undefined)` (log 15). -/
def execKeygen (_rd _rs1 _rs2 : Byte) (_s : State) : Result := refuse (.undefinedEffect "KEYGEN")

end Sys2Proof.Machine
end

