-- ==== Sys2Proof/Machine/ConfidenceOps.lean ====
section
/-! DEFINITION. CONF, the arithmetic of confidence values (spec/48_confidence_a2a.md R511; log 10): the recommended exact
instantiation, or any admissible one, of which only the laws (a) to (d) of R511 are known. -/

namespace Sys2Proof.Machine

/-- A rational brought into `0 .. bound`; outside that interval it becomes `bound`. -/
def Conf.clampTo (free : Rat) (bound : Conf) : Conf :=
  if h : 0 ≤ free ∧ free ≤ bound.val then ⟨free, h.1, Rat.le_trans h.2 bound.leOne⟩ else bound

/-- `CONF.min`: one of the two, of the lower value (R511 (a)). -/
def Conf.min (a b : Conf) : Conf := if a.val ≤ b.val then a else b

/-- The one of the two of the higher value. -/
def Conf.max (a b : Conf) : Conf := if a.val ≤ b.val then b else a

/-- `CONF.lt` (R511 (b)). -/
def Conf.lt (a b : Conf) : Bool := decide (a.val < b.val)

/-- `CONF.mul` (R511 (d)): at most the lower of the two. -/
def Conf.mul (p : ConfParam) (a b : Conf) : Conf :=
  match p with
  | .anyAdmissible => Conf.clampTo (Config.confMul a.val b.val) (Conf.min a b)
  | .exactRationals _ => Conf.clampTo (a.val * b.val) (Conf.min a b)

/-- `CONF.divloss` (R511 (d)): at most `CONF.mul`. -/
def Conf.divloss (p : ConfParam) (a b : Conf) : Conf :=
  match p with
  | .anyAdmissible => Conf.clampTo (Config.confDivloss a.val b.val) (Conf.mul p a b)
  | .exactRationals e => Conf.clampTo (a.val * b.val * (1 - e.val)) (Conf.mul p a b)

/-- The highest of the free values at bytes 1 .. `n`, so that it rises with `n` (R511 (c)). -/
def Conf.freeByteUpTo : Nat → Conf
  | 0 => Conf.zero
  | n + 1 => Conf.max (Conf.freeByteUpTo n) (Conf.clampTo (Config.confByte (n + 1)) Conf.one)

/-- `CONF.ofByte` (R511 (c)). -/
def Conf.ofByte (p : ConfParam) (n : Byte) : Conf :=
  match p with
  | .anyAdmissible => if n = 255 then Conf.one else Conf.freeByteUpTo n.toNat
  | .exactRationals _ => Conf.clampTo ((n.toNat : Rat) / 255) Conf.one

/-- A drawn confidence (00_scope.md R11 `any`; log 8). -/
def Conf.drawn (draw cell : Nat) : Conf := Conf.clampTo (Config.anyConf draw cell) Conf.one

/-- Sixty-four drawn confidences. -/
def Conf.drawnCells (draw : Nat) : Vector Conf 64 := Vector.ofFn fun i : Fin 64 => Conf.drawn draw i

/-- `c` and `cacc` become any (40_system_control.md R176). -/
def State.confAny (s : State) : State :=
  { s with
    conf := Conf.drawnCells s.draws
    cacc := Conf.drawn s.draws 64
    draws := s.draws + 1 }

end Sys2Proof.Machine
end

