-- ==== Sys2Proof/Machine/Confidence.lean ====
section
/-! DEFINITION. Confidence, 0x60..0x6F (Format E; C_THRESH: D) (spec/48_confidence_a2a.md). -/

namespace Sys2Proof.Machine

/-- C_ADD (48_confidence_a2a.md R512): the result of ADD; `c[rd] <- CONF.min(c[rs1], c[rs2])`. -/
def execCAdd (rd rs1 rs2 : Byte) (s : State) : Result :=
  withRegs s [rd, rs1, rs2] <| finishZS (s.setC rd (Conf.min (s.getC rs1) (s.getC rs2))) rd
    (s.getX rs1 + s.getX rs2) 4

/-- C_SUB (48_confidence_a2a.md R513): the result of SUB; `c[rd] <- CONF.min(c[rs1], c[rs2])`. -/
def execCSub (rd rs1 rs2 : Byte) (s : State) : Result :=
  withRegs s [rd, rs1, rs2] <| finishZS (s.setC rd (Conf.min (s.getC rs1) (s.getC rs2))) rd
    (s.getX rs1 - s.getX rs2) 4

/-- C_MUL (48_confidence_a2a.md R514): the result of MUL; `c[rd] <- CONF.mul(c[rs1], c[rs2])`. -/
def execCMul (rd rs1 rs2 : Byte) (s : State) : Result :=
  withRegs s [rd, rs1, rs2] <| finishZS (s.setC rd (Conf.mul s.params.conf (s.getC rs1) (s.getC rs2))) rd
    (s.getX rs1 * s.getX rs2) 4

/-- C_DIV (48_confidence_a2a.md R515): the result of DIV; `c[rd] <- CONF.divloss(c[rs1], c[rs2])`. -/
def execCDiv (rd rs1 rs2 : Byte) (s : State) : Result :=
  withRegs s [rd, rs1, rs2] <| withDivisor s rs2 <|
    finishAny (s.setC rd (Conf.divloss s.params.conf (s.getC rs1) (s.getC rs2))) rd
    (wrap32 (quotient s.params.divMode (s32 (s.getX rs1)) (s32 (s.getX rs2)))) 4

/-- C_FADD (48_confidence_a2a.md R516): the result of FADD; `c[rd] <- CONF.min(c[rs1], c[rs2])`. -/
def execCFadd (rd rs1 rs2 : Byte) (s : State) : Result :=
  withRegs s [rd, rs1, rs2] <| finishAny (s.setC rd (Conf.min (s.getC rs1) (s.getC rs2))) rd
    (Fnum.add (s.getX rs1) (s.getX rs2)) 4

/-- C_FSUB (48_confidence_a2a.md R517): the result of FSUB; `c[rd] <- CONF.min(c[rs1], c[rs2])`. -/
def execCFsub (rd rs1 rs2 : Byte) (s : State) : Result :=
  withRegs s [rd, rs1, rs2] <| finishAny (s.setC rd (Conf.min (s.getC rs1) (s.getC rs2))) rd
    (Fnum.sub (s.getX rs1) (s.getX rs2)) 4

/-- C_FMUL (48_confidence_a2a.md R518): the result of FMUL; `c[rd] <- CONF.mul(c[rs1], c[rs2])`. -/
def execCFmul (rd rs1 rs2 : Byte) (s : State) : Result :=
  withRegs s [rd, rs1, rs2] <| finishAny (s.setC rd (Conf.mul s.params.conf (s.getC rs1) (s.getC rs2))) rd
    (Fnum.mul (s.getX rs1) (s.getX rs2)) 4

/-- C_FDIV (48_confidence_a2a.md R519): the result of FDIV; `c[rd] <- CONF.divloss(c[rs1], c[rs2])`. -/
def execCFdiv (rd rs1 rs2 : Byte) (s : State) : Result :=
  withRegs s [rd, rs1, rs2] <| withFloatDivisor s rs2 <|
    finishAny (s.setC rd (Conf.divloss s.params.conf (s.getC rs1) (s.getC rs2))) rd
    (Fnum.div (s.getX rs1) (s.getX rs2)) 4

/-- C_MERGE (48_confidence_a2a.md R520): `refuse(C_MERGE_WeightsUndefined)` (log 15). -/
def execCMerge (_rd _rs1 _rs2 : Byte) (_s : State) : Result := refuse (.weightsUndefined "C_MERGE")

/-- C_THRESH (48_confidence_a2a.md R521): the next instruction is skipped if `c[rd] < imm8/255` (log 36). -/
def execCThresh (rd imm8 : Byte) (s : State) : Result :=
  withCell s rd <|
    if Conf.lt (s.getC rd) (Conf.ofByte s.params.conf imm8) then skipNext s 3 else finish s 3

/-- C_BOOST (48_confidence_a2a.md R522): `refuse(C_BOOST_Undefined)` (log 15). -/
def execCBoost (_rd _rs1 _rs2 : Byte) (_s : State) : Result := refuse (.undefinedEffect "C_BOOST")

/-- C_DECAY (48_confidence_a2a.md R523): `refuse(C_DECAY_Undefined)` (log 15). -/
def execCDecay (_rd _rs1 _rs2 : Byte) (_s : State) : Result := refuse (.undefinedEffect "C_DECAY")

/-- C_SOURCE (48_confidence_a2a.md R524): `refuse(C_SOURCE_Undefined)` (log 15). -/
def execCSource (_rd _rs1 _rs2 : Byte) (_s : State) : Result := refuse (.undefinedEffect "C_SOURCE")

/-- C_CALIB (48_confidence_a2a.md R525): `refuse(C_CALIB_Undefined)` (log 15). -/
def execCCalib (_rd _rs1 _rs2 : Byte) (_s : State) : Result := refuse (.undefinedEffect "C_CALIB")

/-- C_EXPLY (48_confidence_a2a.md R526): `refuse(C_EXPLY_Undefined)` (log 15). -/
def execCExply (_rd _rs1 _rs2 : Byte) (_s : State) : Result := refuse (.undefinedEffect "C_EXPLY")

/-- C_VOTE (48_confidence_a2a.md R527): `refuse(C_VOTE_Undefined)` (log 15). -/
def execCVote (_rd _rs1 _rs2 : Byte) (_s : State) : Result := refuse (.undefinedEffect "C_VOTE")

end Sys2Proof.Machine
end

