-- ==== Sys2Proof/Machine/ExtMath.lean ====
section
/-! DEFINITION. Extended math and crypto, 0x90..0x9F (Format E) (spec/47_extmath_collection.md). -/

namespace Sys2Proof.Machine

/-- ABS (47_extmath_collection.md R460): the absolute value; Z and S. -/
def execAbs (rd rs1 _ign : Byte) (s : State) : Result :=
  withRegs s [rd, rs1] (finishZAndS s rd (absSigned (s.getX rs1)) 4)

/-- SIGN (47_extmath_collection.md R461): -1, 0 or 1; Z. -/
def execSign (rd rs1 _ign : Byte) (s : State) : Result := unaryZ signOf rd rs1 s

/-- SQRT (47_extmath_collection.md R462): the integer square root; Z (log 40). -/
def execSqrt (rd rs1 _ign : Byte) (s : State) : Result :=
  withRegs s [rd, rs1] <|
    if s32 (s.getX rs1) < 0 then refuse .sqrtNegative
    else finishZ s rd (BitVec.ofNat 32 (isqrt 16 (u32 (s.getX rs1)))) 4

/-- POW (47_extmath_collection.md R463): the power; Z and S (log 40). -/
def execPow (rd rs1 rs2 : Byte) (s : State) : Result :=
  withRegs s [rd, rs1, rs2] <|
    if s32 (s.getX rs2) < 0 then refuse .powNegativeExponent
    else match powSigned (s32 (s.getX rs1)) (u32 (s.getX rs2)) with
      | none => refuse .powOverflow
      | some p => finishZAndS s rd (wrap32 p) 4

/-- LOG2 (47_extmath_collection.md R464): the integer logarithm; Z. -/
def execLog2 (rd rs1 _ign : Byte) (s : State) : Result :=
  withRegs s [rd, rs1] <|
    if s32 (s.getX rs1) ≤ 0 then raise (.domainError s.pc)
    else finishZ s rd (BitVec.ofNat 32 (highestBit (s.getX rs1))) 4

/-- CLZ (47_extmath_collection.md R465): leading zero bits; Z. -/
def execClz (rd rs1 _ign : Byte) (s : State) : Result := unaryZ (fun v => BitVec.ofNat 32 (leadingZeros v)) rd rs1 s

/-- CTZ (47_extmath_collection.md R466): trailing zero bits; Z; both any for 0 (log 40). -/
def execCtz (rd rs1 _ign : Byte) (s : State) : Result :=
  withRegs s [rd, rs1] <|
    if s.getX rs1 = 0 then finish ((s.setX rd (Config.anyWord s.draws)).flagZAny) 4
    else finishZ s rd (BitVec.ofNat 32 (lowestBit (s.getX rs1))) 4

/-- POPCNT (47_extmath_collection.md R467): set bits; Z. -/
def execPopcnt (rd rs1 _ign : Byte) (s : State) : Result := unaryZ (fun v => BitVec.ofNat 32 (popCount v)) rd rs1 s

/-- CRC32 (47_extmath_collection.md R468): CRC32_FN of the `u32(x[rs2])` bytes at `s32(x[rs1])`; Z (log 11, log 17). -/
def execCrc32 (rd rs1 rs2 : Byte) (s : State) : Result :=
  withRegs s [rd, rs1, rs2] <|
    if 0 < u32 (s.getX rs2) ∧ !inBounds (s.regAddr rs1) (u32 (s.getX rs2)) then raise (.memoryFault (s.regAddr rs1))
    else finishZ s rd (crc32 s.params.crc32 (s.mem.bytes (s.regAddr rs1).toNat (u32 (s.getX rs2)))) 4

/-- SHA256 (47_extmath_collection.md R469): `refuse(SHA256_HandleUndefined)` (log 15). -/
def execSha256 (_rd _rs1 _rs2 : Byte) (_s : State) : Result := refuse (.handleUndefined "SHA256")

/-- RND (47_extmath_collection.md R470): any value in the range of the bounds (log 37). -/
def execRnd (rd rs1 rs2 : Byte) (s : State) : Result :=
  withRegs s [rd, rs1, rs2] <|
    if s32 (s.getX rs2) < s32 (s.getX rs1) then refuse .rndEmptyRange
    else finish (s.setX rd (inRange (s32 (s.getX rs1)) (s32 (s.getX rs2)) (Config.anyWord s.draws))).drew 4

/-- SEED (47_extmath_collection.md R471): `seed <- x[rs1]; x[rd] <-` the previous seed, 0 if unset. -/
def execSeed (rd rs1 _ign : Byte) (s : State) : Result :=
  withRegs s [rd, rs1] (finishX (s.setSeed (s.getX rs1)) rd (s.seed.getD 0) 4)

/-- FMOD (47_extmath_collection.md R472): `FNUM.fmod(x[rs1], x[rs2])`; Z (log 9, log 23). -/
def execFmod (rd rs1 rs2 : Byte) (s : State) : Result :=
  withRegs s [rd, rs1, rs2] (finishZFloat s rd (Fnum.fmod (s.getX rs1) (s.getX rs2)) 4)

/-- FSQRT (47_extmath_collection.md R473): `FNUM.sqrt(x[rs1])`; Z (log 9, log 23). -/
def execFsqrt (rd rs1 _ign : Byte) (s : State) : Result :=
  withRegs s [rd, rs1] <|
    if Fnum.isNeg (s.getX rs1) then raise (.domainError s.pc) else finishZFloat s rd (Fnum.sqrt (s.getX rs1)) 4

/-- FSIN (47_extmath_collection.md R474): `FNUM.sin(x[rs1])`; Z (log 9, log 23). -/
def execFsin (rd rs1 _ign : Byte) (s : State) : Result := unaryZFloat Fnum.sin rd rs1 s

/-- FCOS (47_extmath_collection.md R475): `FNUM.cos(x[rs1])`; Z (log 9, log 23). -/
def execFcos (rd rs1 _ign : Byte) (s : State) : Result := unaryZFloat Fnum.cos rd rs1 s

end Sys2Proof.Machine
end

