-- ==== Sys2Proof/Machine/ExtMemory.lean ====
section
/-! DEFINITION. Extended memory and I/O, 0xD0..0xDF (Format G) (spec/45_long_jumps_ext_memory.md). -/

namespace Sys2Proof.Machine

/-- DMA_CPY (45_long_jumps_ext_memory.md R390): `refuse(DMA_Undefined)` (log 15). -/
def execDmaCpy (_rd _rs1 : Byte) (_imm16 : Half) (_s : State) : Result := refuse (.undefinedEffect "DMA")

/-- DMA_SET (45_long_jumps_ext_memory.md R391): `refuse(DMA_Undefined)` (log 15). -/
def execDmaSet (_rd _rs1 : Byte) (_imm16 : Half) (_s : State) : Result := refuse (.undefinedEffect "DMA")

/-- MMIO_R (45_long_jumps_ext_memory.md R392): `refuse(MMIO_NoDevice)` (log 15). -/
def execMmioR (_rd _rs1 : Byte) (_imm16 : Half) (_s : State) : Result := refuse (.noDevice "MMIO")

/-- MMIO_W (45_long_jumps_ext_memory.md R393): `refuse(MMIO_NoDevice)` (log 15). -/
def execMmioW (_rd _rs1 : Byte) (_imm16 : Half) (_s : State) : Result := refuse (.noDevice "MMIO")

/-- ATOMIC (45_long_jumps_ext_memory.md R394): `x[rd]` and the word at `s32(x[rs1]) + imm16` change places (log 17, log 29). -/
def execAtomic (rd rs1 : Byte) (imm16 : Half) (s : State) : Result :=
  withRegs s [rd, rs1] <| withAgreedImm16 imm16 fun k =>
    withLoad s (s.offsetAddr rs1 k) fun old =>
      withStore s (s.offsetAddr rs1 k) (s.getX rd) fun t => finishX t rd old 5

/-- CAS (45_long_jumps_ext_memory.md R395): `refuse(CAS_Undefined)` (log 15). -/
def execCas (_rd _rs1 : Byte) (_imm16 : Half) (_s : State) : Result := refuse (.undefinedEffect "CAS")

/-- FENCE (45_long_jumps_ext_memory.md R396): `refuse(FENCE_TypeEncoding)` (log 15). -/
def execFence (_rd _rs1 : Byte) (_imm16 : Half) (_s : State) : Result := refuse (.typeEncoding "FENCE")

/-- MALLOC (45_long_jumps_ext_memory.md R397): `refuse(MALLOC_Undefined)` (log 15). -/
def execMalloc (_rd _rs1 : Byte) (_imm16 : Half) (_s : State) : Result := refuse (.undefinedEffect "MALLOC")

/-- FREE (45_long_jumps_ext_memory.md R398): `refuse(FREE_Undefined)` (log 15). -/
def execFree (_rd _rs1 : Byte) (_imm16 : Half) (_s : State) : Result := refuse (.undefinedEffect "FREE")

/-- MPROT (45_long_jumps_ext_memory.md R399): `refuse(MPROT_Undefined)` (log 15). -/
def execMprot (_rd _rs1 : Byte) (_imm16 : Half) (_s : State) : Result := refuse (.undefinedEffect "MPROT")

/-- MCACHE (45_long_jumps_ext_memory.md R400): `refuse(MCACHE_OpEncoding)` (log 15). -/
def execMcache (_rd _rs1 : Byte) (_imm16 : Half) (_s : State) : Result := refuse (.opEncoding "MCACHE")

/-- GPU_LD (45_long_jumps_ext_memory.md R401): `refuse(GPU_NoDevice)` (log 15). -/
def execGpuLd (_rd _rs1 : Byte) (_imm16 : Half) (_s : State) : Result := refuse (.noDevice "GPU")

/-- GPU_ST (45_long_jumps_ext_memory.md R402): `refuse(GPU_NoDevice)` (log 15). -/
def execGpuSt (_rd _rs1 : Byte) (_imm16 : Half) (_s : State) : Result := refuse (.noDevice "GPU")

/-- GPU_EX (45_long_jumps_ext_memory.md R403): `refuse(GPU_NoDevice)` (log 15). -/
def execGpuEx (_rd _rs1 : Byte) (_imm16 : Half) (_s : State) : Result := refuse (.noDevice "GPU")

/-- GPU_SYNC (45_long_jumps_ext_memory.md R404): `refuse(GPU_NoDevice)` (log 15). -/
def execGpuSync (_rd _rs1 : Byte) (_imm16 : Half) (_s : State) : Result := refuse (.noDevice "GPU")

/-- The reserved slot 0xDF (45_long_jumps_ext_memory.md R405): `raise IllegalOpcode(op)` (log 35). -/
def execReservedDF (_s : State) : Result := raise (.illegalOpcode 0xDF)

end Sys2Proof.Machine
end

