-- ==== Sys2Proof/Machine/ExtSystem.lean ====
section
/-! DEFINITION. Extended system, 0xF0..0xFF (Format A) (spec/40_system_control.md). -/

namespace Sys2Proof.Machine

/-- HALT_ERR (40_system_control.md R180): `refuse(HALT_ERR_NameOnly)` (log 15). -/
def execHaltErr (_s : State) : Result := refuse (.nameOnly "HALT_ERR")

/-- REBOOT (40_system_control.md R181): `refuse(REBOOT_NameOnly)` (log 15). -/
def execReboot (_s : State) : Result := refuse (.nameOnly "REBOOT")

/-- DUMP (40_system_control.md R182): `refuse(DUMP_NameOnly)` (log 15). -/
def execDump (_s : State) : Result := refuse (.nameOnly "DUMP")

/-- ASSERT (40_system_control.md R183): `refuse(ASSERT_NameOnly)` (log 15). -/
def execAssert (_s : State) : Result := refuse (.nameOnly "ASSERT")

/-- ID (40_system_control.md R184): `refuse(ID_NameOnly)` (log 15). -/
def execId (_s : State) : Result := refuse (.nameOnly "ID")

/-- VER (40_system_control.md R185): `refuse(VER_NameOnly)` (log 15). -/
def execVer (_s : State) : Result := refuse (.nameOnly "VER")

/-- CLK (40_system_control.md R186): `refuse(CLK_NameOnly)` (log 15). -/
def execClk (_s : State) : Result := refuse (.nameOnly "CLK")

/-- PCLK (40_system_control.md R187): `refuse(PCLK_NameOnly)` (log 15). -/
def execPclk (_s : State) : Result := refuse (.nameOnly "PCLK")

/-- WDOG (40_system_control.md R188): `refuse(WDOG_NameOnly)` (log 15). -/
def execWdog (_s : State) : Result := refuse (.nameOnly "WDOG")

/-- SLEEP (40_system_control.md R189): `refuse(SLEEP_NameOnly)` (log 15). -/
def execSleep (_s : State) : Result := refuse (.nameOnly "SLEEP")

/-- The reserved slot 0xFA (40_system_control.md R191): `raise IllegalOpcode(op)` (log 35). -/
def execReservedFA (_s : State) : Result := raise (.illegalOpcode 0xFA)

/-- The reserved slot 0xFB (40_system_control.md R191): `raise IllegalOpcode(op)` (log 35). -/
def execReservedFB (_s : State) : Result := raise (.illegalOpcode 0xFB)

/-- The reserved slot 0xFC (40_system_control.md R191): `raise IllegalOpcode(op)` (log 35). -/
def execReservedFC (_s : State) : Result := raise (.illegalOpcode 0xFC)

/-- The reserved slot 0xFD (40_system_control.md R191): `raise IllegalOpcode(op)` (log 35). -/
def execReservedFD (_s : State) : Result := raise (.illegalOpcode 0xFD)

/-- The reserved slot 0xFE (40_system_control.md R191): `raise IllegalOpcode(op)` (log 35). -/
def execReservedFE (_s : State) : Result := raise (.illegalOpcode 0xFE)

/-- ILLEGAL (40_system_control.md R190): `raise IllegalOpcode(op)` (log 35). -/
def execIllegal (_s : State) : Result := raise (.illegalOpcode 0xFF)

end Sys2Proof.Machine
end

