-- ==== Sys2Proof/Machine/FloatMem.lean ====
section
/-! DEFINITION. Float, memory, control, 0x30..0x3F (Format E) (spec/43_float_memory_control.md). -/

namespace Sys2Proof.Machine

/-- FADD (43_float_memory_control.md R292): `FNUM.add(x[rs1], x[rs2])`, flags any (log 9). -/
def execFadd (rd rs1 rs2 : Byte) (s : State) : Result := binaryAny Fnum.add rd rs1 rs2 s

/-- FSUB (43_float_memory_control.md R293): `FNUM.sub(x[rs1], x[rs2])`, flags any (log 9). -/
def execFsub (rd rs1 rs2 : Byte) (s : State) : Result := binaryAny Fnum.sub rd rs1 rs2 s

/-- FMUL (43_float_memory_control.md R294): `FNUM.mul(x[rs1], x[rs2])`, flags any (log 9). -/
def execFmul (rd rs1 rs2 : Byte) (s : State) : Result := binaryAny Fnum.mul rd rs1 rs2 s

/-- FDIV (43_float_memory_control.md R295): `FNUM.div(x[rs1], x[rs2])`, flags any (log 9). -/
def execFdiv (rd rs1 rs2 : Byte) (s : State) : Result :=
  withRegs s [rd, rs1, rs2] <| withFloatDivisor s rs2 <|
    finishAny s rd (Fnum.div (s.getX rs1) (s.getX rs2)) 4

/-- FMIN (43_float_memory_control.md R296): `FNUM.min(x[rs1], x[rs2])`, flags any (log 9). -/
def execFmin (rd rs1 rs2 : Byte) (s : State) : Result := binaryAny Fnum.min rd rs1 rs2 s

/-- FMAX (43_float_memory_control.md R297): `FNUM.max(x[rs1], x[rs2])`, flags any (log 9). -/
def execFmax (rd rs1 rs2 : Byte) (s : State) : Result := binaryAny Fnum.max rd rs1 rs2 s

/-- FTOI (43_float_memory_control.md R298): `FNUM.toInt(x[rs1])`, flags any (log 9). -/
def execFtoi (rd rs1 _ign : Byte) (s : State) : Result :=
  withRegs s [rd, rs1] <|
    match Fnum.toInt (s.getX rs1) with
    | none => refuse .ftoiRange
    | some r => finishAny s rd r 4

/-- ITOF (43_float_memory_control.md R299): `FNUM.ofInt(s32(x[rs1]))`, flags any (log 9). -/
def execItof (rd rs1 _ign : Byte) (s : State) : Result :=
  withRegs s [rd, rs1] (finishAny s rd (Fnum.ofInt (s.getX rs1)) 4)

/-- LOAD (43_float_memory_control.md R300): `x[rd] <- MemRead(s32(x[rs1]) + s32(x[rs2]), 4)` (log 17). -/
def execLoad (rd rs1 rs2 : Byte) (s : State) : Result :=
  withRegs s [rd, rs1, rs2] (withLoad s (s.indexedAddr rs1 rs2) fun v => finishX s rd v 4)

/-- STORE (43_float_memory_control.md R301): `MemWrite(s32(x[rs1]) + s32(x[rs2]), 4, x[rd])` (log 17). -/
def execStore (rd rs1 rs2 : Byte) (s : State) : Result :=
  withRegs s [rd, rs1, rs2] (withStore s (s.indexedAddr rs1 rs2) (s.getX rd) fun t => finish t 4)

/-- MOV (43_float_memory_control.md R302): `x[rd] <- x[rs1]`. -/
def execMov (rd rs1 _ign : Byte) (s : State) : Result := withRegs s [rd, rs1] (finishX s rd (s.getX rs1) 4)

/-- SWP (43_float_memory_control.md R303): `x[rd]` and `x[rs1]` change places. -/
def execSwp (rd rs1 _ign : Byte) (s : State) : Result :=
  withRegs s [rd, rs1] (finish ((s.setX rd (s.getX rs1)).setX rs1 (s.getX rd)) 4)

/-- JZ (43_float_memory_control.md R304): branch if `x[rd] = 0`. -/
def execJz (rd rs1 _ign : Byte) (s : State) : Result := branchIf (fun v => v == 0) rd rs1 s

/-- JNZ (43_float_memory_control.md R305): branch if `x[rd] != 0`. -/
def execJnz (rd rs1 _ign : Byte) (s : State) : Result := branchIf (fun v => v != 0) rd rs1 s

/-- JLT (43_float_memory_control.md R306): branch if `s32(x[rd]) < 0`. -/
def execJlt (rd rs1 _ign : Byte) (s : State) : Result := branchIf (fun v => decide (s32 v < 0)) rd rs1 s

/-- JGT (43_float_memory_control.md R307): branch if `s32(x[rd]) > 0`. -/
def execJgt (rd rs1 _ign : Byte) (s : State) : Result := branchIf (fun v => decide (0 < s32 v)) rd rs1 s

end Sys2Proof.Machine
end

