-- ==== Sys2Proof/Machine/Immediate.lean ====
section
/-! DEFINITION. Immediate, 0x10..0x17 (Format C) (spec/41_single_reg_and_imm.md). -/

namespace Sys2Proof.Machine

/-- SYS (41_single_reg_and_imm.md R220): `refuse(SYS_NoHostInterface)` (log 15). -/
def execSys (_imm8 : Byte) (_s : State) : Result := refuse (.noHostInterface "SYS")

/-- TRAP (41_single_reg_and_imm.md R221): `refuse(TRAP_NoVectorTable)` (log 15). -/
def execTrap (_imm8 : Byte) (_s : State) : Result := refuse (.noVectorTable "TRAP")

/-- DBG (41_single_reg_and_imm.md R222): `emit DebugPrint(imm8, x[imm8])` (log 34). -/
def execDbg (imm8 : Byte) (s : State) : Result :=
  if min s.params.nreg.count 48 ≤ imm8.toNat then refuse .dbgOperand else finish (s.emit imm8 (s.getX imm8)) 2

/-- CLF (41_single_reg_and_imm.md R223): the flags the mask selects are cleared (log 32). -/
def execClf (imm8 : Byte) (s : State) : Result := finish (s.clearFlags imm8) 2

/-- SEMA (41_single_reg_and_imm.md R224): `refuse(SEMA_Undefined)` (log 15). -/
def execSema (_imm8 : Byte) (_s : State) : Result := refuse (.undefinedEffect "SEMA")

/-- YIELD (41_single_reg_and_imm.md R225): `pc <- npc` (log 33). -/
def execYield (_imm8 : Byte) (s : State) : Result := finish s 2

/-- CACHE (41_single_reg_and_imm.md R226): `pc <- npc` for the operations 0, 1, 2 (log 33). -/
def execCache (imm8 : Byte) (s : State) : Result := if 2 < imm8.toNat then refuse .cacheOperation else finish s 2

/-- STRIPCF (41_single_reg_and_imm.md R227): `refuse(STRIPCF_Undefined)` (log 15). -/
def execStripcf (_imm8 : Byte) (_s : State) : Result := refuse (.undefinedEffect "STRIPCF")

end Sys2Proof.Machine
end

