-- ==== Sys2Proof/Machine/IntArith.lean ====
section
/-! DEFINITION. Integer arithmetic, 0x20..0x2F (Format E) (spec/42_integer_arithmetic.md). -/

namespace Sys2Proof.Machine

/-- ADD (42_integer_arithmetic.md R251): `x[rs1] + x[rs2]`. -/
def execAdd (rd rs1 rs2 : Byte) (s : State) : Result := binaryZS (fun a b => a + b) rd rs1 rs2 s

/-- SUB (42_integer_arithmetic.md R252): `x[rs1] - x[rs2]`. -/
def execSub (rd rs1 rs2 : Byte) (s : State) : Result := binaryZS (fun a b => a - b) rd rs1 rs2 s

/-- MUL (42_integer_arithmetic.md R253): `x[rs1] * x[rs2]`. -/
def execMul (rd rs1 rs2 : Byte) (s : State) : Result := binaryZS (fun a b => a * b) rd rs1 rs2 s

/-- DIV (42_integer_arithmetic.md R254): the quotient under DIV_MODE, flags any (log 43). -/
def execDiv (rd rs1 rs2 : Byte) (s : State) : Result :=
  withRegs s [rd, rs1, rs2] <| withDivisor s rs2 <|
    finishAny s rd (wrap32 (quotient s.params.divMode (s32 (s.getX rs1)) (s32 (s.getX rs2)))) 4

/-- MOD (42_integer_arithmetic.md R255): the remainder under DIV_MODE, flags any (log 43). -/
def execMod (rd rs1 rs2 : Byte) (s : State) : Result :=
  withRegs s [rd, rs1, rs2] <| withDivisor s rs2 <|
    finishAny s rd (wrap32 (remainder s.params.divMode (s32 (s.getX rs1)) (s32 (s.getX rs2)))) 4

/-- AND (42_integer_arithmetic.md R256): `x[rs1] AND x[rs2]`. -/
def execAnd (rd rs1 rs2 : Byte) (s : State) : Result := binaryZS (fun a b => a &&& b) rd rs1 rs2 s

/-- OR (42_integer_arithmetic.md R257): `x[rs1] OR x[rs2]`. -/
def execOr (rd rs1 rs2 : Byte) (s : State) : Result := binaryZS (fun a b => a ||| b) rd rs1 rs2 s

/-- XOR (42_integer_arithmetic.md R258): `x[rs1] XOR x[rs2]`. -/
def execXor (rd rs1 rs2 : Byte) (s : State) : Result := binaryZS (fun a b => a ^^^ b) rd rs1 rs2 s

/-- SHL (42_integer_arithmetic.md R259): `wrap32(u32(x[rs1]) * 2^n)`, `n = x[rs2][5:0]` (log 28). -/
def execShl (rd rs1 rs2 : Byte) (s : State) : Result := binaryZS (fun a b => shiftLeft a (shiftCount b)) rd rs1 rs2 s

/-- SHR (42_integer_arithmetic.md R260): `floor(s32(x[rs1]) / 2^n)`, `n = x[rs2][5:0]` (log 28). -/
def execShr (rd rs1 rs2 : Byte) (s : State) : Result :=
  binaryZS (fun a b => shiftRightArith a (shiftCount b)) rd rs1 rs2 s

/-- MIN (42_integer_arithmetic.md R261): the signed minimum. -/
def execMin (rd rs1 rs2 : Byte) (s : State) : Result := binaryZS minSigned rd rs1 rs2 s

/-- MAX (42_integer_arithmetic.md R262): the signed maximum. -/
def execMax (rd rs1 rs2 : Byte) (s : State) : Result := binaryZS maxSigned rd rs1 rs2 s

/-- CMP_EQ (42_integer_arithmetic.md R263): 1 if equal, else 0, flags any. -/
def execCmpEq (rd rs1 rs2 : Byte) (s : State) : Result := binaryAny (fun a b => truth (a == b)) rd rs1 rs2 s

/-- CMP_LT (42_integer_arithmetic.md R264): 1 if below (signed), else 0, flags any. -/
def execCmpLt (rd rs1 rs2 : Byte) (s : State) : Result :=
  binaryAny (fun a b => truth (decide (s32 a < s32 b))) rd rs1 rs2 s

/-- CMP_GT (42_integer_arithmetic.md R265): 1 if above (signed), else 0, flags any. -/
def execCmpGt (rd rs1 rs2 : Byte) (s : State) : Result :=
  binaryAny (fun a b => truth (decide (s32 b < s32 a))) rd rs1 rs2 s

/-- CMP_NE (42_integer_arithmetic.md R266): 1 if different, else 0, flags any. -/
def execCmpNe (rd rs1 rs2 : Byte) (s : State) : Result := binaryAny (fun a b => truth (a != b)) rd rs1 rs2 s

end Sys2Proof.Machine
end

