-- ==== Sys2Proof/Machine/LongJump.lean ====
section
/-! DEFINITION. Long jumps, coroutines, debug, 0xE0..0xEF (Format F) (spec/45_long_jumps_ext_memory.md). -/

namespace Sys2Proof.Machine

/-- JMPL (45_long_jumps_ext_memory.md R370): `pc <- npc + sext_16(imm16)`. -/
def execJmpl (_ign : Byte) (imm16 : Half) (s : State) : Result := jumpRelative imm16 s

/-- JALL (45_long_jumps_ext_memory.md R371): `x[rd] <- npc; pc <- npc + sext_16(imm16)`. -/
def execJall (rd : Byte) (imm16 : Half) (s : State) : Result := jumpAndLink rd imm16 s

/-- CALLL (45_long_jumps_ext_memory.md R372): `Push(npc); pc <- s32(x[rd]) + sext_16(imm16)`. -/
def execCalll (rd : Byte) (imm16 : Half) (s : State) : Result := callIndirect rd imm16 s

/-- TAIL (45_long_jumps_ext_memory.md R373): `refuse(TAIL_Undefined)` (log 15). -/
def execTail (_rd : Byte) (_imm16 : Half) (_s : State) : Result := refuse (.undefinedEffect "TAIL")

/-- SWITCH (45_long_jumps_ext_memory.md R374): `refuse(SWITCH_Undefined)` (log 15). -/
def execSwitch (_rd : Byte) (_imm16 : Half) (_s : State) : Result := refuse (.undefinedEffect "SWITCH")

/-- COYIELD (45_long_jumps_ext_memory.md R375): `refuse(COYIELD_Undefined)` (log 15). -/
def execCoyield (_rd : Byte) (_imm16 : Half) (_s : State) : Result := refuse (.undefinedEffect "COYIELD")

/-- CORESUM (45_long_jumps_ext_memory.md R376): `refuse(CORESUM_Undefined)` (log 15). -/
def execCoresum (_rd : Byte) (_imm16 : Half) (_s : State) : Result := refuse (.undefinedEffect "CORESUM")

/-- FAULT (45_long_jumps_ext_memory.md R377): `refuse(FAULT_NoTrapMechanism)` (log 15). -/
def execFault (_rd : Byte) (_imm16 : Half) (_s : State) : Result := refuse (.noTrapMechanism "FAULT")

/-- HANDLER (45_long_jumps_ext_memory.md R378): `refuse(HANDLER_NoTrapMechanism)` (log 15). -/
def execHandler (_rd : Byte) (_imm16 : Half) (_s : State) : Result := refuse (.noTrapMechanism "HANDLER")

/-- TRACE (45_long_jumps_ext_memory.md R379): `refuse(TRACE_NoHostInterface)` (log 15). -/
def execTrace (_rd : Byte) (_imm16 : Half) (_s : State) : Result := refuse (.noHostInterface "TRACE")

/-- PROF_ON (45_long_jumps_ext_memory.md R380): `refuse(PROF_NoHostInterface)` (log 15). -/
def execProfOn (_rd : Byte) (_imm16 : Half) (_s : State) : Result := refuse (.noHostInterface "PROF")

/-- PROF_OFF (45_long_jumps_ext_memory.md R381): `refuse(PROF_NoHostInterface)` (log 15). -/
def execProfOff (_rd : Byte) (_imm16 : Half) (_s : State) : Result := refuse (.noHostInterface "PROF")

/-- WATCH (45_long_jumps_ext_memory.md R382): `refuse(WATCH_NoDebugger)` (log 15). -/
def execWatch (_rd : Byte) (_imm16 : Half) (_s : State) : Result := refuse (.noDebugger "WATCH")

/-- The reserved slot 0xED (45_long_jumps_ext_memory.md R383): `raise IllegalOpcode(op)` (log 35). -/
def execReservedED (_s : State) : Result := raise (.illegalOpcode 0xED)

/-- The reserved slot 0xEE (45_long_jumps_ext_memory.md R383): `raise IllegalOpcode(op)` (log 35). -/
def execReservedEE (_s : State) : Result := raise (.illegalOpcode 0xEE)

/-- The reserved slot 0xEF (45_long_jumps_ext_memory.md R383): `raise IllegalOpcode(op)` (log 35). -/
def execReservedEF (_s : State) : Result := raise (.illegalOpcode 0xEF)

end Sys2Proof.Machine
end

