-- ==== Sys2Proof/Machine/RegImm16.lean ====
section
/-! DEFINITION. Register + imm16, 0x40..0x47 (Format F) (spec/44_imm16_and_frames.md). -/

namespace Sys2Proof.Machine

/-- MOVI16 (44_imm16_and_frames.md R330): `x[rd] <- zext_16(imm16)`, flags unchanged. -/
def execMovi16 (rd : Byte) (imm16 : Half) (s : State) : Result := withRegs s [rd] (finishX s rd (zext16 imm16) 4)

/-- ADDI16 (44_imm16_and_frames.md R331): `x[rd] + zext_16(imm16)`, flags any. -/
def execAddi16 (rd : Byte) (imm16 : Half) (s : State) : Result := updateAny (fun v => v + zext16 imm16) rd 4 s

/-- SUBI16 (44_imm16_and_frames.md R332): `x[rd] - zext_16(imm16)`, flags any. -/
def execSubi16 (rd : Byte) (imm16 : Half) (s : State) : Result := updateAny (fun v => v - zext16 imm16) rd 4 s

/-- JMP (44_imm16_and_frames.md R333): `pc <- npc + sext_16(imm16)`. -/
def execJmp (_ign : Byte) (imm16 : Half) (s : State) : Result := jumpRelative imm16 s

/-- JAL (44_imm16_and_frames.md R334): `x[rd] <- npc; pc <- npc + sext_16(imm16)`. -/
def execJal (rd : Byte) (imm16 : Half) (s : State) : Result := jumpAndLink rd imm16 s

/-- CALL (44_imm16_and_frames.md R335): `Push(npc); pc <- s32(x[rd]) + sext_16(imm16)`. -/
def execCall (rd : Byte) (imm16 : Half) (s : State) : Result := callIndirect rd imm16 s

/-- LOOP (44_imm16_and_frames.md R336): `x[rd] <- x[rd] - 1`, flags any, back by imm16 while positive (log 29). -/
def execLoop (rd : Byte) (imm16 : Half) (s : State) : Result :=
  withRegs s [rd] <| withAgreedImm16 imm16 fun k =>
    if 0 < s32 (s.getX rd - 1) then .next (((s.setX rd (s.getX rd - 1)).flagsAny).jumpBy 4 (-k))
    else finishAny s rd (s.getX rd - 1) 4

/-- SELECT (44_imm16_and_frames.md R337): `pc <- npc + imm16 * s32(x[rd])` (log 29). -/
def execSelect (rd : Byte) (imm16 : Half) (s : State) : Result :=
  withRegs s [rd] (withAgreedImm16 imm16 fun k => .next (s.jumpBy 4 (k * s32 (s.getX rd))))

end Sys2Proof.Machine
end

