-- ==== Sys2Proof/Machine/RegImm8.lean ====
section
/-! DEFINITION. Register + imm8, 0x18..0x1F (Format D) (spec/41_single_reg_and_imm.md). -/

namespace Sys2Proof.Machine

/-- MOVI (41_single_reg_and_imm.md R230): `x[rd] <- sext_8(imm8)`, flags unchanged. -/
def execMovi (rd imm8 : Byte) (s : State) : Result := withRegs s [rd] (finishX s rd (sext8 imm8) 3)

/-- ADDI (41_single_reg_and_imm.md R231): `x[rd] + sext_8(imm8)`, flags any. -/
def execAddi (rd imm8 : Byte) (s : State) : Result := updateAny (fun v => v + sext8 imm8) rd 3 s

/-- SUBI (41_single_reg_and_imm.md R232): `x[rd] - sext_8(imm8)`, flags any. -/
def execSubi (rd imm8 : Byte) (s : State) : Result := updateAny (fun v => v - sext8 imm8) rd 3 s

/-- ANDI (41_single_reg_and_imm.md R233): `x[rd] AND zext_8(imm8)`, flags any. -/
def execAndi (rd imm8 : Byte) (s : State) : Result := updateAny (fun v => v &&& zext8 imm8) rd 3 s

/-- ORI (41_single_reg_and_imm.md R234): `x[rd] OR zext_8(imm8)`, flags any. -/
def execOri (rd imm8 : Byte) (s : State) : Result := updateAny (fun v => v ||| zext8 imm8) rd 3 s

/-- XORI (41_single_reg_and_imm.md R235): `x[rd] XOR zext_8(imm8)`, flags any. -/
def execXori (rd imm8 : Byte) (s : State) : Result := updateAny (fun v => v ^^^ zext8 imm8) rd 3 s

/-- SHLI (41_single_reg_and_imm.md R236): `wrap32(u32(x[rd]) * 2^n)`, flags any (log 28). -/
def execShli (rd imm8 : Byte) (s : State) : Result :=
  withRegs s [rd] (withShiftCount imm8 fun n => finishAny s rd (shiftLeft (s.getX rd) n) 3)

/-- SHRI (41_single_reg_and_imm.md R237): `floor(s32(x[rd]) / 2^n)`, flags any (log 28). -/
def execShri (rd imm8 : Byte) (s : State) : Result :=
  withRegs s [rd] (withShiftCount imm8 fun n => finishAny s rd (shiftRightArith (s.getX rd) n) 3)

end Sys2Proof.Machine
end

