-- ==== Sys2Proof/Machine/RegRegImm16.lean ====
section
/-! DEFINITION. Register + register + imm16, 0x48..0x4F (Format G) (spec/44_imm16_and_frames.md). -/

namespace Sys2Proof.Machine

/-- LOADOFF (44_imm16_and_frames.md R340): `x[rd] <- MemRead(s32(x[rs1]) + sext_16(imm16), 4)` (log 17). -/
def execLoadoff (rd rs1 : Byte) (imm16 : Half) (s : State) : Result :=
  withRegs s [rd, rs1] (withLoad s (s.offsetAddr rs1 (sext16 imm16)) fun v => finishX s rd v 5)

/-- STOREOFF (44_imm16_and_frames.md R341): `MemWrite(s32(x[rs1]) + sext_16(imm16), 4, x[rd])` (log 17). -/
def execStoreoff (rd rs1 : Byte) (imm16 : Half) (s : State) : Result :=
  withRegs s [rd, rs1] (withStore s (s.offsetAddr rs1 (sext16 imm16)) (s.getX rd) fun t => finish t 5)

/-- LOADI (44_imm16_and_frames.md R342): a load from the pointer at `s32(x[rs1])` plus imm16 (log 17, log 29). -/
def execLoadi (rd rs1 : Byte) (imm16 : Half) (s : State) : Result :=
  withRegs s [rd, rs1] <| withAgreedImm16 imm16 fun k =>
    withLoad s (s.regAddr rs1) fun p => withLoad s (s32 p + k) fun v => finishX s rd v 5

/-- STOREI (44_imm16_and_frames.md R343): a store to the pointer at `s32(x[rs1])` plus imm16 (log 17, log 29). -/
def execStorei (rd rs1 : Byte) (imm16 : Half) (s : State) : Result :=
  withRegs s [rd, rs1] <| withAgreedImm16 imm16 fun k =>
    withLoad s (s.regAddr rs1) fun p => withStore s (s32 p + k) (s.getX rd) fun t => finish t 5

/-- ENTER (44_imm16_and_frames.md R344): `refuse(ENTER_Undefined)` (log 15). -/
def execEnter (_rd _rs1 : Byte) (_imm16 : Half) (_s : State) : Result := refuse (.undefinedEffect "ENTER")

/-- LEAVE (44_imm16_and_frames.md R345): `refuse(LEAVE_Undefined)` (log 15). -/
def execLeave (_rd _rs1 : Byte) (_imm16 : Half) (_s : State) : Result := refuse (.undefinedEffect "LEAVE")

/-- COPY (44_imm16_and_frames.md R346): imm16 bytes from `s32(x[rs1])` to `s32(x[rd])`, both ranges checked first (log 30). -/
def execCopy (rd rs1 : Byte) (imm16 : Half) (s : State) : Result :=
  withRegs s [rd, rs1] (copyBytes s (s.regAddr rd) (s.regAddr rs1) imm16.toNat)

/-- FILL (44_imm16_and_frames.md R347): imm16 bytes at `s32(x[rd])` become `x[rs1]`; the value is checked
first, then the count, then the whole range, before any byte is written (log 30). -/
def execFill (rd rs1 : Byte) (imm16 : Half) (s : State) : Result :=
  withRegs s [rd, rs1] (fillBytes s (s.regAddr rd) (s.getX rs1) imm16.toNat)

end Sys2Proof.Machine
end

