-- ==== Sys2Proof/Machine/Sensor.lean ====
section
/-! DEFINITION. Sensor, 0x80..0x8F (Format E) (spec/46_viewpoint_sensor.md). -/

namespace Sys2Proof.Machine

/-- SENSE (46_viewpoint_sensor.md R440): `refuse(SENSE_NoDevice)` (log 15). -/
def execSense (_rd _rs1 _rs2 : Byte) (_s : State) : Result := refuse (.noDevice "SENSE")

/-- ACTUATE (46_viewpoint_sensor.md R441): `refuse(ACTUATE_NoDevice)` (log 15). -/
def execActuate (_rd _rs1 _rs2 : Byte) (_s : State) : Result := refuse (.noDevice "ACTUATE")

/-- SAMPLE (46_viewpoint_sensor.md R442): `refuse(SAMPLE_NoDevice)` (log 15). -/
def execSample (_rd _rs1 _rs2 : Byte) (_s : State) : Result := refuse (.noDevice "SAMPLE")

/-- ENERGY (46_viewpoint_sensor.md R443): `refuse(ENERGY_NoDevice)` (log 15). -/
def execEnergy (_rd _rs1 _rs2 : Byte) (_s : State) : Result := refuse (.noDevice "ENERGY")

/-- TEMP (46_viewpoint_sensor.md R444): `refuse(TEMP_NoDevice)` (log 15). -/
def execTemp (_rd _rs1 _rs2 : Byte) (_s : State) : Result := refuse (.noDevice "TEMP")

/-- GPS (46_viewpoint_sensor.md R445): `refuse(GPS_NoDevice)` (log 15). -/
def execGps (_rd _rs1 _rs2 : Byte) (_s : State) : Result := refuse (.noDevice "GPS")

/-- ACCEL (46_viewpoint_sensor.md R446): `refuse(ACCEL_NoDevice)` (log 15). -/
def execAccel (_rd _rs1 _rs2 : Byte) (_s : State) : Result := refuse (.noDevice "ACCEL")

/-- DEPTH (46_viewpoint_sensor.md R447): `refuse(DEPTH_NoDevice)` (log 15). -/
def execDepth (_rd _rs1 _rs2 : Byte) (_s : State) : Result := refuse (.noDevice "DEPTH")

/-- CAMCAP (46_viewpoint_sensor.md R448): `refuse(CAMCAP_NoDevice)` (log 15). -/
def execCamcap (_rd _rs1 _rs2 : Byte) (_s : State) : Result := refuse (.noDevice "CAMCAP")

/-- CAMDET (46_viewpoint_sensor.md R449): `refuse(CAMDET_NoDevice)` (log 15). -/
def execCamdet (_rd _rs1 _rs2 : Byte) (_s : State) : Result := refuse (.noDevice "CAMDET")

/-- PWM (46_viewpoint_sensor.md R450): `refuse(PWM_NoDevice)` (log 15). -/
def execPwm (_rd _rs1 _rs2 : Byte) (_s : State) : Result := refuse (.noDevice "PWM")

/-- GPIO (46_viewpoint_sensor.md R451): `refuse(GPIO_NoDevice)` (log 15). -/
def execGpio (_rd _rs1 _rs2 : Byte) (_s : State) : Result := refuse (.noDevice "GPIO")

/-- I2C (46_viewpoint_sensor.md R452): `refuse(I2C_NoDevice)` (log 15). -/
def execI2c (_rd _rs1 _rs2 : Byte) (_s : State) : Result := refuse (.noDevice "I2C")

/-- SPI (46_viewpoint_sensor.md R453): `refuse(SPI_NoDevice)` (log 15). -/
def execSpi (_rd _rs1 _rs2 : Byte) (_s : State) : Result := refuse (.noDevice "SPI")

/-- UART (46_viewpoint_sensor.md R454): `refuse(UART_NoDevice)` (log 15). -/
def execUart (_rd _rs1 _rs2 : Byte) (_s : State) : Result := refuse (.noDevice "UART")

/-- CANBUS (46_viewpoint_sensor.md R455): `refuse(CANBUS_NoDevice)` (log 15). -/
def execCanbus (_rd _rs1 _rs2 : Byte) (_s : State) : Result := refuse (.noDevice "CANBUS")

end Sys2Proof.Machine
end

