-- ==== Sys2Proof/Machine/SingleReg.lean ====
section
/-! DEFINITION. Single register, 0x08..0x0F (Format B) (spec/41_single_reg_and_imm.md). -/

namespace Sys2Proof.Machine

/-- INC (41_single_reg_and_imm.md R210): `x[rd] + 1`. -/
def execInc (rd : Byte) (s : State) : Result := updateZS (fun v => v + 1) rd s

/-- DEC (41_single_reg_and_imm.md R211): `x[rd] - 1`. -/
def execDec (rd : Byte) (s : State) : Result := updateZS (fun v => v - 1) rd s

/-- NOT (41_single_reg_and_imm.md R212): `x[rd] XOR 0xFFFFFFFF`. -/
def execNot (rd : Byte) (s : State) : Result := updateZS (fun v => v ^^^ 0xFFFFFFFF) rd s

/-- NEG (41_single_reg_and_imm.md R213): `0 - x[rd]`. -/
def execNeg (rd : Byte) (s : State) : Result := updateZS (fun v => -v) rd s

/-- PUSH (41_single_reg_and_imm.md R214): `Push(x[rd])`, the value before SP moves (log 25). -/
def execPush (rd : Byte) (s : State) : Result :=
  withRegs s [rd] (withPush s (s.getX rd) fun t => finish t 2)

/-- POP (41_single_reg_and_imm.md R215): `x[rd] <- Pop()` (log 25). -/
def execPop (rd : Byte) (s : State) : Result :=
  withRegs s [rd] <| if rd = spReg then refuse .popIntoSP else withPop s fun v t => finishX t rd v 2

/-- CONF_LD (41_single_reg_and_imm.md R216): `cacc <- c[rd]`. -/
def execConfLd (rd : Byte) (s : State) : Result := withCell s rd (finish (s.setCacc (s.getC rd)) 2)

/-- CONF_ST (41_single_reg_and_imm.md R217): `c[rd] <- cacc`. -/
def execConfSt (rd : Byte) (s : State) : Result := withCell s rd (finish (s.setC rd s.cacc) 2)

end Sys2Proof.Machine
end

