-- ==== Sys2Proof/Machine/System.lean ====
section
/-! DEFINITION. System control and interrupt/debug, 0x00..0x07 (Format A) (spec/40_system_control.md). -/

namespace Sys2Proof.Machine

/-- HALT (40_system_control.md R170): `halted <- true; pc <- npc`. -/
def execHalt (s : State) : Result := finish s.halt 1

/-- NOP (40_system_control.md R171): `pc <- npc` (log 33). -/
def execNop (s : State) : Result := finish s 1

/-- RET (40_system_control.md R172): `if u32(SP) = STACK_TOP then halted <- true; pc <- npc, else t = Pop(); pc <- u32(t)`. -/
def execRet (s : State) : Result :=
  if u32 s.sp = Config.stackTop then finish s.halt 1 else withPop s fun t s' => .next (s'.setPc (u32 t))

/-- IRET (40_system_control.md R173): `refuse(IRET_NoInterruptModel)` (log 15). -/
def execIret (_s : State) : Result := refuse (.noInterruptModel "IRET")

/-- BRK (40_system_control.md R174): `raise Breakpoint(pc)` (log 33). -/
def execBrk (s : State) : Result := raise (.breakpoint s.pc)

/-- WFI (40_system_control.md R175): no step is enabled (log 13). -/
def execWfi (s : State) : Result := raise (.stuck s.pc)

/-- RESET (40_system_control.md R176): `x[1..63] <- 0`, `c` and `cacc` any (log 31). -/
def execReset (s : State) : Result := finish s.clearRegs.confAny 1

/-- SYN (40_system_control.md R177): `pc <- npc` (log 33). -/
def execSyn (s : State) : Result := finish s 1

end Sys2Proof.Machine
end

