-- ==== Sys2Proof/Machine/TensorOps.lean ====
section
/-! DEFINITION. Tensor, 0xC0..0xCF (Format E) (spec/49_vector_tensor.md). -/

namespace Sys2Proof.Machine

/-- TMATMUL (49_vector_tensor.md R581): `refuse(TMATMUL_NameOnly)` (log 15). -/
def execTmatmul (_rd _rs1 _rs2 : Byte) (_s : State) : Result := refuse (.nameOnly "TMATMUL")

/-- TCONV (49_vector_tensor.md R582): `refuse(TCONV_NameOnly)` (log 15). -/
def execTconv (_rd _rs1 _rs2 : Byte) (_s : State) : Result := refuse (.nameOnly "TCONV")

/-- TPOOL (49_vector_tensor.md R583): `refuse(TPOOL_NameOnly)` (log 15). -/
def execTpool (_rd _rs1 _rs2 : Byte) (_s : State) : Result := refuse (.nameOnly "TPOOL")

/-- TRELU (49_vector_tensor.md R584): `refuse(TRELU_NameOnly)` (log 15). -/
def execTrelu (_rd _rs1 _rs2 : Byte) (_s : State) : Result := refuse (.nameOnly "TRELU")

/-- TSIGM (49_vector_tensor.md R585): `refuse(TSIGM_NameOnly)` (log 15). -/
def execTsigm (_rd _rs1 _rs2 : Byte) (_s : State) : Result := refuse (.nameOnly "TSIGM")

/-- TSOFT (49_vector_tensor.md R586): `refuse(TSOFT_NameOnly)` (log 15). -/
def execTsoft (_rd _rs1 _rs2 : Byte) (_s : State) : Result := refuse (.nameOnly "TSOFT")

/-- TLOSS (49_vector_tensor.md R587): `refuse(TLOSS_NameOnly)` (log 15). -/
def execTloss (_rd _rs1 _rs2 : Byte) (_s : State) : Result := refuse (.nameOnly "TLOSS")

/-- TGRAD (49_vector_tensor.md R588): `refuse(TGRAD_NameOnly)` (log 15). -/
def execTgrad (_rd _rs1 _rs2 : Byte) (_s : State) : Result := refuse (.nameOnly "TGRAD")

/-- TUPDATE (49_vector_tensor.md R589): `refuse(TUPDATE_NameOnly)` (log 15). -/
def execTupdate (_rd _rs1 _rs2 : Byte) (_s : State) : Result := refuse (.nameOnly "TUPDATE")

/-- TADAM (49_vector_tensor.md R590): `refuse(TADAM_NameOnly)` (log 15). -/
def execTadam (_rd _rs1 _rs2 : Byte) (_s : State) : Result := refuse (.nameOnly "TADAM")

/-- TEMBED (49_vector_tensor.md R591): `refuse(TEMBED_NameOnly)` (log 15). -/
def execTembed (_rd _rs1 _rs2 : Byte) (_s : State) : Result := refuse (.nameOnly "TEMBED")

/-- TATTN (49_vector_tensor.md R592): `refuse(TATTN_NameOnly)` (log 15). -/
def execTattn (_rd _rs1 _rs2 : Byte) (_s : State) : Result := refuse (.nameOnly "TATTN")

/-- TSAMPLE (49_vector_tensor.md R593): `refuse(TSAMPLE_NameOnly)` (log 15). -/
def execTsample (_rd _rs1 _rs2 : Byte) (_s : State) : Result := refuse (.nameOnly "TSAMPLE")

/-- TTOKEN (49_vector_tensor.md R594): `refuse(TTOKEN_NameOnly)` (log 15). -/
def execTtoken (_rd _rs1 _rs2 : Byte) (_s : State) : Result := refuse (.nameOnly "TTOKEN")

/-- TDETOK (49_vector_tensor.md R595): `refuse(TDETOK_NameOnly)` (log 15). -/
def execTdetok (_rd _rs1 _rs2 : Byte) (_s : State) : Result := refuse (.nameOnly "TDETOK")

/-- TQUANT (49_vector_tensor.md R596): `refuse(TQUANT_NameOnly)` (log 15). -/
def execTquant (_rd _rs1 _rs2 : Byte) (_s : State) : Result := refuse (.nameOnly "TQUANT")

end Sys2Proof.Machine
end

