-- ==== Sys2Proof/Machine/VectorOps.lean ====
section
/-! DEFINITION. Vector, 0xB0..0xBF (Format E) (spec/49_vector_tensor.md). -/

namespace Sys2Proof.Machine

/-- VLOAD (49_vector_tensor.md R561): `refuse(VLOAD_NameOnly)` (log 15). -/
def execVload (_rd _rs1 _rs2 : Byte) (_s : State) : Result := refuse (.nameOnly "VLOAD")

/-- VSTORE (49_vector_tensor.md R562): `refuse(VSTORE_NameOnly)` (log 15). -/
def execVstore (_rd _rs1 _rs2 : Byte) (_s : State) : Result := refuse (.nameOnly "VSTORE")

/-- VADD (49_vector_tensor.md R563): `refuse(VADD_NameOnly)` (log 15). -/
def execVadd (_rd _rs1 _rs2 : Byte) (_s : State) : Result := refuse (.nameOnly "VADD")

/-- VMUL (49_vector_tensor.md R564): `refuse(VMUL_NameOnly)` (log 15). -/
def execVmul (_rd _rs1 _rs2 : Byte) (_s : State) : Result := refuse (.nameOnly "VMUL")

/-- VDOT (49_vector_tensor.md R565): `refuse(VDOT_NameOnly)` (log 15). -/
def execVdot (_rd _rs1 _rs2 : Byte) (_s : State) : Result := refuse (.nameOnly "VDOT")

/-- VNORM (49_vector_tensor.md R566): `refuse(VNORM_NameOnly)` (log 15). -/
def execVnorm (_rd _rs1 _rs2 : Byte) (_s : State) : Result := refuse (.nameOnly "VNORM")

/-- VSCALE (49_vector_tensor.md R567): `refuse(VSCALE_NameOnly)` (log 15). -/
def execVscale (_rd _rs1 _rs2 : Byte) (_s : State) : Result := refuse (.nameOnly "VSCALE")

/-- VMAXP (49_vector_tensor.md R568): `refuse(VMAXP_NameOnly)` (log 15). -/
def execVmaxp (_rd _rs1 _rs2 : Byte) (_s : State) : Result := refuse (.nameOnly "VMAXP")

/-- VMINP (49_vector_tensor.md R569): `refuse(VMINP_NameOnly)` (log 15). -/
def execVminp (_rd _rs1 _rs2 : Byte) (_s : State) : Result := refuse (.nameOnly "VMINP")

/-- VREDUCE (49_vector_tensor.md R570): `refuse(VREDUCE_NameOnly)` (log 15). -/
def execVreduce (_rd _rs1 _rs2 : Byte) (_s : State) : Result := refuse (.nameOnly "VREDUCE")

/-- VGATHER (49_vector_tensor.md R571): `refuse(VGATHER_NameOnly)` (log 15). -/
def execVgather (_rd _rs1 _rs2 : Byte) (_s : State) : Result := refuse (.nameOnly "VGATHER")

/-- VSCATTER (49_vector_tensor.md R572): `refuse(VSCATTER_NameOnly)` (log 15). -/
def execVscatter (_rd _rs1 _rs2 : Byte) (_s : State) : Result := refuse (.nameOnly "VSCATTER")

/-- VSHUF (49_vector_tensor.md R573): `refuse(VSHUF_NameOnly)` (log 15). -/
def execVshuf (_rd _rs1 _rs2 : Byte) (_s : State) : Result := refuse (.nameOnly "VSHUF")

/-- VMERGE (49_vector_tensor.md R574): `refuse(VMERGE_NameOnly)` (log 15). -/
def execVmerge (_rd _rs1 _rs2 : Byte) (_s : State) : Result := refuse (.nameOnly "VMERGE")

/-- VCONF (49_vector_tensor.md R575): `refuse(VCONF_NameOnly)` (log 15). -/
def execVconf (_rd _rs1 _rs2 : Byte) (_s : State) : Result := refuse (.nameOnly "VCONF")

/-- VSELECT (49_vector_tensor.md R576): `refuse(VSELECT_NameOnly)` (log 15). -/
def execVselect (_rd _rs1 _rs2 : Byte) (_s : State) : Result := refuse (.nameOnly "VSELECT")

end Sys2Proof.Machine
end

