-- ==== Sys2Proof/Machine/Viewpoint.lean ====
section
/-! DEFINITION. Viewpoint, 0x70..0x7F (Format E) (spec/46_viewpoint_sensor.md). -/

namespace Sys2Proof.Machine

/-- V_EVID (46_viewpoint_sensor.md R420): `refuse(V_EVID_Undefined)` (log 15). -/
def execVEvid (_rd _rs1 _rs2 : Byte) (_s : State) : Result := refuse (.undefinedEffect "V_EVID")

/-- V_EPIST (46_viewpoint_sensor.md R421): `refuse(V_EPIST_Undefined)` (log 15). -/
def execVEpist (_rd _rs1 _rs2 : Byte) (_s : State) : Result := refuse (.undefinedEffect "V_EPIST")

/-- V_MIR (46_viewpoint_sensor.md R422): `refuse(V_MIR_Undefined)` (log 15). -/
def execVMir (_rd _rs1 _rs2 : Byte) (_s : State) : Result := refuse (.undefinedEffect "V_MIR")

/-- V_NEG (46_viewpoint_sensor.md R423): `refuse(V_NEG_Undefined)` (log 15). -/
def execVNeg (_rd _rs1 _rs2 : Byte) (_s : State) : Result := refuse (.undefinedEffect "V_NEG")

/-- V_TENSE (46_viewpoint_sensor.md R424): `refuse(V_TENSE_Undefined)` (log 15). -/
def execVTense (_rd _rs1 _rs2 : Byte) (_s : State) : Result := refuse (.undefinedEffect "V_TENSE")

/-- V_ASPEC (46_viewpoint_sensor.md R425): `refuse(V_ASPEC_Undefined)` (log 15). -/
def execVAspec (_rd _rs1 _rs2 : Byte) (_s : State) : Result := refuse (.undefinedEffect "V_ASPEC")

/-- V_MODAL (46_viewpoint_sensor.md R426): `refuse(V_MODAL_Undefined)` (log 15). -/
def execVModal (_rd _rs1 _rs2 : Byte) (_s : State) : Result := refuse (.undefinedEffect "V_MODAL")

/-- V_POLIT (46_viewpoint_sensor.md R427): `refuse(V_POLIT_Undefined)` (log 15). -/
def execVPolit (_rd _rs1 _rs2 : Byte) (_s : State) : Result := refuse (.undefinedEffect "V_POLIT")

/-- V_HONOR (46_viewpoint_sensor.md R428): `refuse(V_HONOR_Undefined)` (log 15). -/
def execVHonor (_rd _rs1 _rs2 : Byte) (_s : State) : Result := refuse (.undefinedEffect "V_HONOR")

/-- V_TOPIC (46_viewpoint_sensor.md R429): `refuse(V_TOPIC_Undefined)` (log 15). -/
def execVTopic (_rd _rs1 _rs2 : Byte) (_s : State) : Result := refuse (.undefinedEffect "V_TOPIC")

/-- V_FOCUS (46_viewpoint_sensor.md R430): `refuse(V_FOCUS_Undefined)` (log 15). -/
def execVFocus (_rd _rs1 _rs2 : Byte) (_s : State) : Result := refuse (.undefinedEffect "V_FOCUS")

/-- V_CASE (46_viewpoint_sensor.md R431): `refuse(V_CASE_Undefined)` (log 15). -/
def execVCase (_rd _rs1 _rs2 : Byte) (_s : State) : Result := refuse (.undefinedEffect "V_CASE")

/-- V_AGREE (46_viewpoint_sensor.md R432): `refuse(V_AGREE_Undefined)` (log 15). -/
def execVAgree (_rd _rs1 _rs2 : Byte) (_s : State) : Result := refuse (.undefinedEffect "V_AGREE")

/-- V_CLASS (46_viewpoint_sensor.md R433): `refuse(V_CLASS_Undefined)` (log 15). -/
def execVClass (_rd _rs1 _rs2 : Byte) (_s : State) : Result := refuse (.undefinedEffect "V_CLASS")

/-- V_INFL (46_viewpoint_sensor.md R434): `refuse(V_INFL_Undefined)` (log 15). -/
def execVInfl (_rd _rs1 _rs2 : Byte) (_s : State) : Result := refuse (.undefinedEffect "V_INFL")

/-- V_PRAGMA (46_viewpoint_sensor.md R435): `refuse(V_PRAGMA_Undefined)` (log 15). -/
def execVPragma (_rd _rs1 _rs2 : Byte) (_s : State) : Result := refuse (.undefinedEffect "V_PRAGMA")

end Sys2Proof.Machine
end

