-- ==== Sys2Proof/Machine/Dispatch.lean ====
section
/-! DEFINITION. exec: one arm per row of spec/opcode_table.json, each one direct call of that instruction's meaning. -/

namespace Sys2Proof.Machine

def exec (i : Instr) (s : State) : Host.Outcome State Fault Refusal :=
  match i with
  -- System control and interrupt/debug, 0x00..0x07 (Format A)
  | .halt => Sys2Proof.Machine.execHalt s
  | .nop => Sys2Proof.Machine.execNop s
  | .ret => Sys2Proof.Machine.execRet s
  | .iret => Sys2Proof.Machine.execIret s
  | .brk => Sys2Proof.Machine.execBrk s
  | .wfi => Sys2Proof.Machine.execWfi s
  | .reset => Sys2Proof.Machine.execReset s
  | .syn => Sys2Proof.Machine.execSyn s
  -- Single register, 0x08..0x0F (Format B)
  | .inc rd => Sys2Proof.Machine.execInc rd s
  | .dec rd => Sys2Proof.Machine.execDec rd s
  | .not rd => Sys2Proof.Machine.execNot rd s
  | .neg rd => Sys2Proof.Machine.execNeg rd s
  | .push rd => Sys2Proof.Machine.execPush rd s
  | .pop rd => Sys2Proof.Machine.execPop rd s
  | .confLd rd => Sys2Proof.Machine.execConfLd rd s
  | .confSt rd => Sys2Proof.Machine.execConfSt rd s
  -- Immediate, 0x10..0x17 (Format C)
  | .sys imm8 => Sys2Proof.Machine.execSys imm8 s
  | .trap imm8 => Sys2Proof.Machine.execTrap imm8 s
  | .dbg imm8 => Sys2Proof.Machine.execDbg imm8 s
  | .clf imm8 => Sys2Proof.Machine.execClf imm8 s
  | .sema imm8 => Sys2Proof.Machine.execSema imm8 s
  | .yield imm8 => Sys2Proof.Machine.execYield imm8 s
  | .cache imm8 => Sys2Proof.Machine.execCache imm8 s
  | .stripcf imm8 => Sys2Proof.Machine.execStripcf imm8 s
  -- Register + imm8, 0x18..0x1F (Format D)
  | .movi rd imm8 => Sys2Proof.Machine.execMovi rd imm8 s
  | .addi rd imm8 => Sys2Proof.Machine.execAddi rd imm8 s
  | .subi rd imm8 => Sys2Proof.Machine.execSubi rd imm8 s
  | .andi rd imm8 => Sys2Proof.Machine.execAndi rd imm8 s
  | .ori rd imm8 => Sys2Proof.Machine.execOri rd imm8 s
  | .xori rd imm8 => Sys2Proof.Machine.execXori rd imm8 s
  | .shli rd imm8 => Sys2Proof.Machine.execShli rd imm8 s
  | .shri rd imm8 => Sys2Proof.Machine.execShri rd imm8 s
  -- Integer arithmetic, 0x20..0x2F (Format E)
  | .add rd rs1 rs2 => Sys2Proof.Machine.execAdd rd rs1 rs2 s
  | .sub rd rs1 rs2 => Sys2Proof.Machine.execSub rd rs1 rs2 s
  | .mul rd rs1 rs2 => Sys2Proof.Machine.execMul rd rs1 rs2 s
  | .div rd rs1 rs2 => Sys2Proof.Machine.execDiv rd rs1 rs2 s
  | .mod rd rs1 rs2 => Sys2Proof.Machine.execMod rd rs1 rs2 s
  | .and rd rs1 rs2 => Sys2Proof.Machine.execAnd rd rs1 rs2 s
  | .or rd rs1 rs2 => Sys2Proof.Machine.execOr rd rs1 rs2 s
  | .xor rd rs1 rs2 => Sys2Proof.Machine.execXor rd rs1 rs2 s
  | .shl rd rs1 rs2 => Sys2Proof.Machine.execShl rd rs1 rs2 s
  | .shr rd rs1 rs2 => Sys2Proof.Machine.execShr rd rs1 rs2 s
  | .min rd rs1 rs2 => Sys2Proof.Machine.execMin rd rs1 rs2 s
  | .max rd rs1 rs2 => Sys2Proof.Machine.execMax rd rs1 rs2 s
  | .cmpEq rd rs1 rs2 => Sys2Proof.Machine.execCmpEq rd rs1 rs2 s
  | .cmpLt rd rs1 rs2 => Sys2Proof.Machine.execCmpLt rd rs1 rs2 s
  | .cmpGt rd rs1 rs2 => Sys2Proof.Machine.execCmpGt rd rs1 rs2 s
  | .cmpNe rd rs1 rs2 => Sys2Proof.Machine.execCmpNe rd rs1 rs2 s
  -- Float, memory, control, 0x30..0x3F (Format E)
  | .fadd rd rs1 rs2 => Sys2Proof.Machine.execFadd rd rs1 rs2 s
  | .fsub rd rs1 rs2 => Sys2Proof.Machine.execFsub rd rs1 rs2 s
  | .fmul rd rs1 rs2 => Sys2Proof.Machine.execFmul rd rs1 rs2 s
  | .fdiv rd rs1 rs2 => Sys2Proof.Machine.execFdiv rd rs1 rs2 s
  | .fmin rd rs1 rs2 => Sys2Proof.Machine.execFmin rd rs1 rs2 s
  | .fmax rd rs1 rs2 => Sys2Proof.Machine.execFmax rd rs1 rs2 s
  | .ftoi rd rs1 ign => Sys2Proof.Machine.execFtoi rd rs1 ign s
  | .itof rd rs1 ign => Sys2Proof.Machine.execItof rd rs1 ign s
  | .load rd rs1 rs2 => Sys2Proof.Machine.execLoad rd rs1 rs2 s
  | .store rd rs1 rs2 => Sys2Proof.Machine.execStore rd rs1 rs2 s
  | .mov rd rs1 ign => Sys2Proof.Machine.execMov rd rs1 ign s
  | .swp rd rs1 ign => Sys2Proof.Machine.execSwp rd rs1 ign s
  | .jz rd rs1 ign => Sys2Proof.Machine.execJz rd rs1 ign s
  | .jnz rd rs1 ign => Sys2Proof.Machine.execJnz rd rs1 ign s
  | .jlt rd rs1 ign => Sys2Proof.Machine.execJlt rd rs1 ign s
  | .jgt rd rs1 ign => Sys2Proof.Machine.execJgt rd rs1 ign s
  -- Register + imm16, 0x40..0x47 (Format F)
  | .movi16 rd imm16 => Sys2Proof.Machine.execMovi16 rd imm16 s
  | .addi16 rd imm16 => Sys2Proof.Machine.execAddi16 rd imm16 s
  | .subi16 rd imm16 => Sys2Proof.Machine.execSubi16 rd imm16 s
  | .jmp ign imm16 => Sys2Proof.Machine.execJmp ign imm16 s
  | .jal rd imm16 => Sys2Proof.Machine.execJal rd imm16 s
  | .call rd imm16 => Sys2Proof.Machine.execCall rd imm16 s
  | .loop rd imm16 => Sys2Proof.Machine.execLoop rd imm16 s
  | .select rd imm16 => Sys2Proof.Machine.execSelect rd imm16 s
  -- Register + register + imm16, 0x48..0x4F (Format G)
  | .loadoff rd rs1 imm16 => Sys2Proof.Machine.execLoadoff rd rs1 imm16 s
  | .storeoff rd rs1 imm16 => Sys2Proof.Machine.execStoreoff rd rs1 imm16 s
  | .loadi rd rs1 imm16 => Sys2Proof.Machine.execLoadi rd rs1 imm16 s
  | .storei rd rs1 imm16 => Sys2Proof.Machine.execStorei rd rs1 imm16 s
  | .enter rd rs1 imm16 => Sys2Proof.Machine.execEnter rd rs1 imm16 s
  | .leave rd rs1 imm16 => Sys2Proof.Machine.execLeave rd rs1 imm16 s
  | .copy rd rs1 imm16 => Sys2Proof.Machine.execCopy rd rs1 imm16 s
  | .fill rd rs1 imm16 => Sys2Proof.Machine.execFill rd rs1 imm16 s
  -- Agent-to-agent, 0x50..0x5F (Format E)
  | .tell rd rs1 rs2 => Sys2Proof.Machine.execTell rd rs1 rs2 s
  | .ask rd rs1 rs2 => Sys2Proof.Machine.execAsk rd rs1 rs2 s
  | .deleg rd rs1 rs2 => Sys2Proof.Machine.execDeleg rd rs1 rs2 s
  | .bcast rd rs1 rs2 => Sys2Proof.Machine.execBcast rd rs1 rs2 s
  | .accept rd rs1 rs2 => Sys2Proof.Machine.execAccept rd rs1 rs2 s
  | .decline rd rs1 rs2 => Sys2Proof.Machine.execDecline rd rs1 rs2 s
  | .report rd rs1 rs2 => Sys2Proof.Machine.execReport rd rs1 rs2 s
  | .merge rd rs1 rs2 => Sys2Proof.Machine.execMerge rd rs1 rs2 s
  | .fork rd rs1 rs2 => Sys2Proof.Machine.execFork rd rs1 rs2 s
  | .join rd rs1 rs2 => Sys2Proof.Machine.execJoin rd rs1 rs2 s
  | .signal rd rs1 rs2 => Sys2Proof.Machine.execSignal rd rs1 rs2 s
  | .await rd rs1 rs2 => Sys2Proof.Machine.execAwait rd rs1 rs2 s
  | .trust rd rs1 rs2 => Sys2Proof.Machine.execTrust rd rs1 rs2 s
  | .discov rd rs1 rs2 => Sys2Proof.Machine.execDiscov rd rs1 rs2 s
  | .status rd rs1 rs2 => Sys2Proof.Machine.execStatus rd rs1 rs2 s
  | .heartbt rd rs1 rs2 => Sys2Proof.Machine.execHeartbt rd rs1 rs2 s
  -- Confidence, 0x60..0x6F (Format E; C_THRESH: D)
  | .cAdd rd rs1 rs2 => Sys2Proof.Machine.execCAdd rd rs1 rs2 s
  | .cSub rd rs1 rs2 => Sys2Proof.Machine.execCSub rd rs1 rs2 s
  | .cMul rd rs1 rs2 => Sys2Proof.Machine.execCMul rd rs1 rs2 s
  | .cDiv rd rs1 rs2 => Sys2Proof.Machine.execCDiv rd rs1 rs2 s
  | .cFadd rd rs1 rs2 => Sys2Proof.Machine.execCFadd rd rs1 rs2 s
  | .cFsub rd rs1 rs2 => Sys2Proof.Machine.execCFsub rd rs1 rs2 s
  | .cFmul rd rs1 rs2 => Sys2Proof.Machine.execCFmul rd rs1 rs2 s
  | .cFdiv rd rs1 rs2 => Sys2Proof.Machine.execCFdiv rd rs1 rs2 s
  | .cMerge rd rs1 rs2 => Sys2Proof.Machine.execCMerge rd rs1 rs2 s
  | .cThresh rd imm8 => Sys2Proof.Machine.execCThresh rd imm8 s
  | .cBoost rd rs1 rs2 => Sys2Proof.Machine.execCBoost rd rs1 rs2 s
  | .cDecay rd rs1 rs2 => Sys2Proof.Machine.execCDecay rd rs1 rs2 s
  | .cSource rd rs1 rs2 => Sys2Proof.Machine.execCSource rd rs1 rs2 s
  | .cCalib rd rs1 rs2 => Sys2Proof.Machine.execCCalib rd rs1 rs2 s
  | .cExply rd rs1 rs2 => Sys2Proof.Machine.execCExply rd rs1 rs2 s
  | .cVote rd rs1 rs2 => Sys2Proof.Machine.execCVote rd rs1 rs2 s
  -- Viewpoint, 0x70..0x7F (Format E)
  | .vEvid rd rs1 rs2 => Sys2Proof.Machine.execVEvid rd rs1 rs2 s
  | .vEpist rd rs1 rs2 => Sys2Proof.Machine.execVEpist rd rs1 rs2 s
  | .vMir rd rs1 rs2 => Sys2Proof.Machine.execVMir rd rs1 rs2 s
  | .vNeg rd rs1 rs2 => Sys2Proof.Machine.execVNeg rd rs1 rs2 s
  | .vTense rd rs1 rs2 => Sys2Proof.Machine.execVTense rd rs1 rs2 s
  | .vAspec rd rs1 rs2 => Sys2Proof.Machine.execVAspec rd rs1 rs2 s
  | .vModal rd rs1 rs2 => Sys2Proof.Machine.execVModal rd rs1 rs2 s
  | .vPolit rd rs1 rs2 => Sys2Proof.Machine.execVPolit rd rs1 rs2 s
  | .vHonor rd rs1 rs2 => Sys2Proof.Machine.execVHonor rd rs1 rs2 s
  | .vTopic rd rs1 rs2 => Sys2Proof.Machine.execVTopic rd rs1 rs2 s
  | .vFocus rd rs1 rs2 => Sys2Proof.Machine.execVFocus rd rs1 rs2 s
  | .vCase rd rs1 rs2 => Sys2Proof.Machine.execVCase rd rs1 rs2 s
  | .vAgree rd rs1 rs2 => Sys2Proof.Machine.execVAgree rd rs1 rs2 s
  | .vClass rd rs1 rs2 => Sys2Proof.Machine.execVClass rd rs1 rs2 s
  | .vInfl rd rs1 rs2 => Sys2Proof.Machine.execVInfl rd rs1 rs2 s
  | .vPragma rd rs1 rs2 => Sys2Proof.Machine.execVPragma rd rs1 rs2 s
  -- Sensor, 0x80..0x8F (Format E)
  | .sense rd rs1 rs2 => Sys2Proof.Machine.execSense rd rs1 rs2 s
  | .actuate rd rs1 rs2 => Sys2Proof.Machine.execActuate rd rs1 rs2 s
  | .sample rd rs1 rs2 => Sys2Proof.Machine.execSample rd rs1 rs2 s
  | .energy rd rs1 rs2 => Sys2Proof.Machine.execEnergy rd rs1 rs2 s
  | .temp rd rs1 rs2 => Sys2Proof.Machine.execTemp rd rs1 rs2 s
  | .gps rd rs1 rs2 => Sys2Proof.Machine.execGps rd rs1 rs2 s
  | .accel rd rs1 rs2 => Sys2Proof.Machine.execAccel rd rs1 rs2 s
  | .depth rd rs1 rs2 => Sys2Proof.Machine.execDepth rd rs1 rs2 s
  | .camcap rd rs1 rs2 => Sys2Proof.Machine.execCamcap rd rs1 rs2 s
  | .camdet rd rs1 rs2 => Sys2Proof.Machine.execCamdet rd rs1 rs2 s
  | .pwm rd rs1 rs2 => Sys2Proof.Machine.execPwm rd rs1 rs2 s
  | .gpio rd rs1 rs2 => Sys2Proof.Machine.execGpio rd rs1 rs2 s
  | .i2c rd rs1 rs2 => Sys2Proof.Machine.execI2c rd rs1 rs2 s
  | .spi rd rs1 rs2 => Sys2Proof.Machine.execSpi rd rs1 rs2 s
  | .uart rd rs1 rs2 => Sys2Proof.Machine.execUart rd rs1 rs2 s
  | .canbus rd rs1 rs2 => Sys2Proof.Machine.execCanbus rd rs1 rs2 s
  -- Extended math and crypto, 0x90..0x9F (Format E)
  | .abs rd rs1 ign => Sys2Proof.Machine.execAbs rd rs1 ign s
  | .sign rd rs1 ign => Sys2Proof.Machine.execSign rd rs1 ign s
  | .sqrt rd rs1 ign => Sys2Proof.Machine.execSqrt rd rs1 ign s
  | .pow rd rs1 rs2 => Sys2Proof.Machine.execPow rd rs1 rs2 s
  | .log2 rd rs1 ign => Sys2Proof.Machine.execLog2 rd rs1 ign s
  | .clz rd rs1 ign => Sys2Proof.Machine.execClz rd rs1 ign s
  | .ctz rd rs1 ign => Sys2Proof.Machine.execCtz rd rs1 ign s
  | .popcnt rd rs1 ign => Sys2Proof.Machine.execPopcnt rd rs1 ign s
  | .crc32 rd rs1 rs2 => Sys2Proof.Machine.execCrc32 rd rs1 rs2 s
  | .sha256 rd rs1 rs2 => Sys2Proof.Machine.execSha256 rd rs1 rs2 s
  | .rnd rd rs1 rs2 => Sys2Proof.Machine.execRnd rd rs1 rs2 s
  | .seed rd rs1 ign => Sys2Proof.Machine.execSeed rd rs1 ign s
  | .fmod rd rs1 rs2 => Sys2Proof.Machine.execFmod rd rs1 rs2 s
  | .fsqrt rd rs1 ign => Sys2Proof.Machine.execFsqrt rd rs1 ign s
  | .fsin rd rs1 ign => Sys2Proof.Machine.execFsin rd rs1 ign s
  | .fcos rd rs1 ign => Sys2Proof.Machine.execFcos rd rs1 ign s
  -- Collections and crypto, 0xA0..0xAF (Format E; LEN: D, SLICE: G)
  | .len rd imm8 => Sys2Proof.Machine.execLen rd imm8 s
  | .concat rd rs1 rs2 => Sys2Proof.Machine.execConcat rd rs1 rs2 s
  | .collAt rd rs1 rs2 => Sys2Proof.Machine.execCollAt rd rs1 rs2 s
  | .setat rd rs1 rs2 => Sys2Proof.Machine.execSetat rd rs1 rs2 s
  | .slice rd rs1 imm16 => Sys2Proof.Machine.execSlice rd rs1 imm16 s
  | .reduce rd rs1 rs2 => Sys2Proof.Machine.execReduce rd rs1 rs2 s
  | .map rd rs1 rs2 => Sys2Proof.Machine.execMap rd rs1 rs2 s
  | .filter rd rs1 rs2 => Sys2Proof.Machine.execFilter rd rs1 rs2 s
  | .sort rd rs1 rs2 => Sys2Proof.Machine.execSort rd rs1 rs2 s
  | .find rd rs1 rs2 => Sys2Proof.Machine.execFind rd rs1 rs2 s
  | .hash rd rs1 rs2 => Sys2Proof.Machine.execHash rd rs1 rs2 s
  | .hmac rd rs1 rs2 => Sys2Proof.Machine.execHmac rd rs1 rs2 s
  | .verify rd rs1 rs2 => Sys2Proof.Machine.execVerify rd rs1 rs2 s
  | .encrypt rd rs1 rs2 => Sys2Proof.Machine.execEncrypt rd rs1 rs2 s
  | .decrypt rd rs1 rs2 => Sys2Proof.Machine.execDecrypt rd rs1 rs2 s
  | .keygen rd rs1 rs2 => Sys2Proof.Machine.execKeygen rd rs1 rs2 s
  -- Vector, 0xB0..0xBF (Format E)
  | .vload rd rs1 rs2 => Sys2Proof.Machine.execVload rd rs1 rs2 s
  | .vstore rd rs1 rs2 => Sys2Proof.Machine.execVstore rd rs1 rs2 s
  | .vadd rd rs1 rs2 => Sys2Proof.Machine.execVadd rd rs1 rs2 s
  | .vmul rd rs1 rs2 => Sys2Proof.Machine.execVmul rd rs1 rs2 s
  | .vdot rd rs1 rs2 => Sys2Proof.Machine.execVdot rd rs1 rs2 s
  | .vnorm rd rs1 rs2 => Sys2Proof.Machine.execVnorm rd rs1 rs2 s
  | .vscale rd rs1 rs2 => Sys2Proof.Machine.execVscale rd rs1 rs2 s
  | .vmaxp rd rs1 rs2 => Sys2Proof.Machine.execVmaxp rd rs1 rs2 s
  | .vminp rd rs1 rs2 => Sys2Proof.Machine.execVminp rd rs1 rs2 s
  | .vreduce rd rs1 rs2 => Sys2Proof.Machine.execVreduce rd rs1 rs2 s
  | .vgather rd rs1 rs2 => Sys2Proof.Machine.execVgather rd rs1 rs2 s
  | .vscatter rd rs1 rs2 => Sys2Proof.Machine.execVscatter rd rs1 rs2 s
  | .vshuf rd rs1 rs2 => Sys2Proof.Machine.execVshuf rd rs1 rs2 s
  | .vmerge rd rs1 rs2 => Sys2Proof.Machine.execVmerge rd rs1 rs2 s
  | .vconf rd rs1 rs2 => Sys2Proof.Machine.execVconf rd rs1 rs2 s
  | .vselect rd rs1 rs2 => Sys2Proof.Machine.execVselect rd rs1 rs2 s
  -- Tensor, 0xC0..0xCF (Format E)
  | .tmatmul rd rs1 rs2 => Sys2Proof.Machine.execTmatmul rd rs1 rs2 s
  | .tconv rd rs1 rs2 => Sys2Proof.Machine.execTconv rd rs1 rs2 s
  | .tpool rd rs1 rs2 => Sys2Proof.Machine.execTpool rd rs1 rs2 s
  | .trelu rd rs1 rs2 => Sys2Proof.Machine.execTrelu rd rs1 rs2 s
  | .tsigm rd rs1 rs2 => Sys2Proof.Machine.execTsigm rd rs1 rs2 s
  | .tsoft rd rs1 rs2 => Sys2Proof.Machine.execTsoft rd rs1 rs2 s
  | .tloss rd rs1 rs2 => Sys2Proof.Machine.execTloss rd rs1 rs2 s
  | .tgrad rd rs1 rs2 => Sys2Proof.Machine.execTgrad rd rs1 rs2 s
  | .tupdate rd rs1 rs2 => Sys2Proof.Machine.execTupdate rd rs1 rs2 s
  | .tadam rd rs1 rs2 => Sys2Proof.Machine.execTadam rd rs1 rs2 s
  | .tembed rd rs1 rs2 => Sys2Proof.Machine.execTembed rd rs1 rs2 s
  | .tattn rd rs1 rs2 => Sys2Proof.Machine.execTattn rd rs1 rs2 s
  | .tsample rd rs1 rs2 => Sys2Proof.Machine.execTsample rd rs1 rs2 s
  | .ttoken rd rs1 rs2 => Sys2Proof.Machine.execTtoken rd rs1 rs2 s
  | .tdetok rd rs1 rs2 => Sys2Proof.Machine.execTdetok rd rs1 rs2 s
  | .tquant rd rs1 rs2 => Sys2Proof.Machine.execTquant rd rs1 rs2 s
  -- Extended memory and I/O, 0xD0..0xDF (Format G)
  | .dmaCpy rd rs1 imm16 => Sys2Proof.Machine.execDmaCpy rd rs1 imm16 s
  | .dmaSet rd rs1 imm16 => Sys2Proof.Machine.execDmaSet rd rs1 imm16 s
  | .mmioR rd rs1 imm16 => Sys2Proof.Machine.execMmioR rd rs1 imm16 s
  | .mmioW rd rs1 imm16 => Sys2Proof.Machine.execMmioW rd rs1 imm16 s
  | .atomic rd rs1 imm16 => Sys2Proof.Machine.execAtomic rd rs1 imm16 s
  | .cas rd rs1 imm16 => Sys2Proof.Machine.execCas rd rs1 imm16 s
  | .fence rd rs1 imm16 => Sys2Proof.Machine.execFence rd rs1 imm16 s
  | .malloc rd rs1 imm16 => Sys2Proof.Machine.execMalloc rd rs1 imm16 s
  | .free rd rs1 imm16 => Sys2Proof.Machine.execFree rd rs1 imm16 s
  | .mprot rd rs1 imm16 => Sys2Proof.Machine.execMprot rd rs1 imm16 s
  | .mcache rd rs1 imm16 => Sys2Proof.Machine.execMcache rd rs1 imm16 s
  | .gpuLd rd rs1 imm16 => Sys2Proof.Machine.execGpuLd rd rs1 imm16 s
  | .gpuSt rd rs1 imm16 => Sys2Proof.Machine.execGpuSt rd rs1 imm16 s
  | .gpuEx rd rs1 imm16 => Sys2Proof.Machine.execGpuEx rd rs1 imm16 s
  | .gpuSync rd rs1 imm16 => Sys2Proof.Machine.execGpuSync rd rs1 imm16 s
  | .reservedDF => Sys2Proof.Machine.execReservedDF s
  -- Long jumps, coroutines, debug, 0xE0..0xEF (Format F)
  | .jmpl ign imm16 => Sys2Proof.Machine.execJmpl ign imm16 s
  | .jall rd imm16 => Sys2Proof.Machine.execJall rd imm16 s
  | .calll rd imm16 => Sys2Proof.Machine.execCalll rd imm16 s
  | .tail rd imm16 => Sys2Proof.Machine.execTail rd imm16 s
  | .switch rd imm16 => Sys2Proof.Machine.execSwitch rd imm16 s
  | .coyield rd imm16 => Sys2Proof.Machine.execCoyield rd imm16 s
  | .coresum rd imm16 => Sys2Proof.Machine.execCoresum rd imm16 s
  | .fault rd imm16 => Sys2Proof.Machine.execFault rd imm16 s
  | .handler rd imm16 => Sys2Proof.Machine.execHandler rd imm16 s
  | .trace rd imm16 => Sys2Proof.Machine.execTrace rd imm16 s
  | .profOn rd imm16 => Sys2Proof.Machine.execProfOn rd imm16 s
  | .profOff rd imm16 => Sys2Proof.Machine.execProfOff rd imm16 s
  | .watch rd imm16 => Sys2Proof.Machine.execWatch rd imm16 s
  | .reservedED => Sys2Proof.Machine.execReservedED s
  | .reservedEE => Sys2Proof.Machine.execReservedEE s
  | .reservedEF => Sys2Proof.Machine.execReservedEF s
  -- Extended system, 0xF0..0xFF (Format A)
  | .haltErr => Sys2Proof.Machine.execHaltErr s
  | .reboot => Sys2Proof.Machine.execReboot s
  | .dump => Sys2Proof.Machine.execDump s
  | .assert => Sys2Proof.Machine.execAssert s
  | .id => Sys2Proof.Machine.execId s
  | .ver => Sys2Proof.Machine.execVer s
  | .clk => Sys2Proof.Machine.execClk s
  | .pclk => Sys2Proof.Machine.execPclk s
  | .wdog => Sys2Proof.Machine.execWdog s
  | .sleep => Sys2Proof.Machine.execSleep s
  | .reservedFA => Sys2Proof.Machine.execReservedFA s
  | .reservedFB => Sys2Proof.Machine.execReservedFB s
  | .reservedFC => Sys2Proof.Machine.execReservedFC s
  | .reservedFD => Sys2Proof.Machine.execReservedFD s
  | .reservedFE => Sys2Proof.Machine.execReservedFE s
  | .illegal => Sys2Proof.Machine.execIllegal s

end Sys2Proof.Machine
end

