-- ==== Sys2Proof/Machine/Step.lean ====
section
/-! DEFINITION. One step of the VM: one iteration of the fetch-decode-execute loop (spec/10_state.md R41;
60_exceptions.md R613), and the placing of an instruction where the next step fetches. -/

namespace Sys2Proof.Machine

/-- One iteration of the loop (10_state.md R41). An instruction that completes is counted (R45); one that stops is not.
At the end of a run no step is taken and the state stays (60_exceptions.md R604, R613 (1); log 12). -/
def step (s : State) : Host.Outcome State Fault Refusal :=
  if s.ended then .next s
  else
    match fetchInstr s with
    | .error f => raise f
    | .ok i =>
      match exec i s with
      | .next t => .next t.tick
      | .fault f => .fault f
      | .refused r => .refused r

/-- The bytes of `new` in place of those of `old` from index `start` on, with zeros before if `old` is shorter. -/
def overlay (old : List Byte) (start : Nat) (new : List Byte) : List Byte :=
  old.take start ++ List.replicate (start - old.length) 0 ++ new ++ old.drop (start + new.length)

/-- `s` with an instruction stored where `step` fetches next: its bytes at `pc` in the bytecode, `pc` at 0 if it was
negative, `halted` false, and MAX_CYCLES above `cycles` (log 2). -/
def State.withFetchWord (s : State) (nbits w : Nat) : State :=
  { s with
    pc := if s.pc < 0 then 0 else s.pc
    code := overlay s.code s.pc.toNat (tableBytes nbits w)
    halted := false
    params := { s.params with maxCycles := max s.params.maxCycles (s.cycles + 1) } }

end Sys2Proof.Machine
end

