-- ==== Sys2Proof/WellFormed.lean ====
section
/-! DEFINITION. Well-formed instructions: what operand validation can refuse from the instruction alone
(spec/10_state.md R36, R37; 60_exceptions.md R613 (6); 30_encoding.md R150 to R152). Every byte string that decodes is an
instruction of Syntax; an ill-formed one is refused when it runs, by the refusal its defect names (a reserved slot or
ILLEGAL raises IllegalOpcode instead). -/

namespace Sys2Proof

/-- Why an instruction is ill-formed, in the order 60_exceptions.md R613 gives. -/
inductive Defect where
  /-- A reserved slot or ILLEGAL (30_encoding.md R150, R151). -/
  | noInstruction
  /-- A used register byte of NREG or more (10_state.md R37). -/
  | registerOutOfRange
  /-- A register byte in 48..63 in a 32-bit position (10_state.md R36). -/
  | vectorRegisterAs32Bit
  /-- `POP R11` (41_single_reg_and_imm.md R215). -/
  | popIntoSP
  /-- DBG of no 32-bit register (41_single_reg_and_imm.md R222). -/
  | dbgOperand
  /-- CACHE of no operation (41_single_reg_and_imm.md R226). -/
  | cacheOperation
  /-- SHLI, SHRI by 64 or more (41_single_reg_and_imm.md R236, R237). -/
  | shiftCount
  /-- imm16 of 0x8000 or more where its sign is not stated (44_imm16_and_frames.md R329). -/
  | imm16Signedness
  deriving DecidableEq, Repr

/-- The defect of bytes in 32-bit register positions (10_state.md R36, R37). -/
def regDefect (n : RegCount) (rs : List Byte) : Option Defect :=
  if rs.any (fun r => decide (n.count ≤ r.toNat)) then some .registerOutOfRange
  else if rs.any (fun r => decide (48 ≤ r.toNat)) then some .vectorRegisterAs32Bit
  else none

/-- The defect of a byte that selects a confidence cell (41_single_reg_and_imm.md R216; 48_confidence_a2a.md R521). -/
def cellDefect (n : RegCount) (r : Byte) : Option Defect :=
  if n.count ≤ r.toNat then some .registerOutOfRange else none

/-- A defect where a condition holds. -/
def defectIf (bad : Bool) (d : Defect) : Option Defect := if bad then some d else none

/-- The first defect of an instruction, none when it is well-formed. An instruction whose rule is REFUSE has none: it is
refused whatever its operand bytes hold (60_exceptions.md R613 (5)). -/
def Instr.defect (n : RegCount) : Instr → Option Defect
  -- System control and interrupt/debug, 0x00..0x07 (Format A)
  | .halt => none
  | .nop => none
  | .ret => none
  | .iret => none
  | .brk => none
  | .wfi => none
  | .reset => none
  | .syn => none
  -- Single register, 0x08..0x0F (Format B)
  | .inc rd => regDefect n [rd]
  | .dec rd => regDefect n [rd]
  | .not rd => regDefect n [rd]
  | .neg rd => regDefect n [rd]
  | .push rd => regDefect n [rd]
  | .pop rd => (regDefect n [rd]).or (defectIf (rd == 11) .popIntoSP)
  | .confLd rd => cellDefect n rd
  | .confSt rd => cellDefect n rd
  -- Immediate, 0x10..0x17 (Format C)
  | .sys _ => none
  | .trap _ => none
  | .dbg imm8 => defectIf (decide (Nat.min n.count 48 ≤ imm8.toNat)) .dbgOperand
  | .clf _ => none
  | .sema _ => none
  | .yield _ => none
  | .cache imm8 => defectIf (decide (2 < imm8.toNat)) .cacheOperation
  | .stripcf _ => none
  -- Register + imm8, 0x18..0x1F (Format D)
  | .movi rd _ => regDefect n [rd]
  | .addi rd _ => regDefect n [rd]
  | .subi rd _ => regDefect n [rd]
  | .andi rd _ => regDefect n [rd]
  | .ori rd _ => regDefect n [rd]
  | .xori rd _ => regDefect n [rd]
  | .shli rd imm8 => (regDefect n [rd]).or (defectIf (decide (63 < imm8.toNat)) .shiftCount)
  | .shri rd imm8 => (regDefect n [rd]).or (defectIf (decide (63 < imm8.toNat)) .shiftCount)
  -- Integer arithmetic, 0x20..0x2F (Format E)
  | .add rd rs1 rs2 => regDefect n [rd, rs1, rs2]
  | .sub rd rs1 rs2 => regDefect n [rd, rs1, rs2]
  | .mul rd rs1 rs2 => regDefect n [rd, rs1, rs2]
  | .div rd rs1 rs2 => regDefect n [rd, rs1, rs2]
  | .mod rd rs1 rs2 => regDefect n [rd, rs1, rs2]
  | .and rd rs1 rs2 => regDefect n [rd, rs1, rs2]
  | .or rd rs1 rs2 => regDefect n [rd, rs1, rs2]
  | .xor rd rs1 rs2 => regDefect n [rd, rs1, rs2]
  | .shl rd rs1 rs2 => regDefect n [rd, rs1, rs2]
  | .shr rd rs1 rs2 => regDefect n [rd, rs1, rs2]
  | .min rd rs1 rs2 => regDefect n [rd, rs1, rs2]
  | .max rd rs1 rs2 => regDefect n [rd, rs1, rs2]
  | .cmpEq rd rs1 rs2 => regDefect n [rd, rs1, rs2]
  | .cmpLt rd rs1 rs2 => regDefect n [rd, rs1, rs2]
  | .cmpGt rd rs1 rs2 => regDefect n [rd, rs1, rs2]
  | .cmpNe rd rs1 rs2 => regDefect n [rd, rs1, rs2]
  -- Float, memory, control, 0x30..0x3F (Format E)
  | .fadd rd rs1 rs2 => regDefect n [rd, rs1, rs2]
  | .fsub rd rs1 rs2 => regDefect n [rd, rs1, rs2]
  | .fmul rd rs1 rs2 => regDefect n [rd, rs1, rs2]
  | .fdiv rd rs1 rs2 => regDefect n [rd, rs1, rs2]
  | .fmin rd rs1 rs2 => regDefect n [rd, rs1, rs2]
  | .fmax rd rs1 rs2 => regDefect n [rd, rs1, rs2]
  | .ftoi rd rs1 _ => regDefect n [rd, rs1]
  | .itof rd rs1 _ => regDefect n [rd, rs1]
  | .load rd rs1 rs2 => regDefect n [rd, rs1, rs2]
  | .store rd rs1 rs2 => regDefect n [rd, rs1, rs2]
  | .mov rd rs1 _ => regDefect n [rd, rs1]
  | .swp rd rs1 _ => regDefect n [rd, rs1]
  | .jz rd rs1 _ => regDefect n [rd, rs1]
  | .jnz rd rs1 _ => regDefect n [rd, rs1]
  | .jlt rd rs1 _ => regDefect n [rd, rs1]
  | .jgt rd rs1 _ => regDefect n [rd, rs1]
  -- Register + imm16, 0x40..0x47 (Format F)
  | .movi16 rd _ => regDefect n [rd]
  | .addi16 rd _ => regDefect n [rd]
  | .subi16 rd _ => regDefect n [rd]
  | .jmp _ _ => none
  | .jal rd _ => regDefect n [rd]
  | .call rd _ => regDefect n [rd]
  | .loop rd imm16 => (regDefect n [rd]).or (defectIf (decide (0x8000 ≤ imm16.toNat)) .imm16Signedness)
  | .select rd imm16 => (regDefect n [rd]).or (defectIf (decide (0x8000 ≤ imm16.toNat)) .imm16Signedness)
  -- Register + register + imm16, 0x48..0x4F (Format G)
  | .loadoff rd rs1 _ => regDefect n [rd, rs1]
  | .storeoff rd rs1 _ => regDefect n [rd, rs1]
  | .loadi rd rs1 imm16 => (regDefect n [rd, rs1]).or (defectIf (decide (0x8000 ≤ imm16.toNat)) .imm16Signedness)
  | .storei rd rs1 imm16 => (regDefect n [rd, rs1]).or (defectIf (decide (0x8000 ≤ imm16.toNat)) .imm16Signedness)
  | .enter _ _ _ => none
  | .leave _ _ _ => none
  | .copy rd rs1 _ => regDefect n [rd, rs1]
  | .fill rd rs1 _ => regDefect n [rd, rs1]
  -- Agent-to-agent, 0x50..0x5F (Format E)
  | .tell _ _ _ => none
  | .ask _ _ _ => none
  | .deleg _ _ _ => none
  | .bcast _ _ _ => none
  | .accept _ _ _ => none
  | .decline _ _ _ => none
  | .report _ _ _ => none
  | .merge _ _ _ => none
  | .fork _ _ _ => none
  | .join _ _ _ => none
  | .signal _ _ _ => none
  | .await _ _ _ => none
  | .trust _ _ _ => none
  | .discov _ _ _ => none
  | .status _ _ _ => none
  | .heartbt _ _ _ => none
  -- Confidence, 0x60..0x6F (Format E; C_THRESH: D)
  | .cAdd rd rs1 rs2 => regDefect n [rd, rs1, rs2]
  | .cSub rd rs1 rs2 => regDefect n [rd, rs1, rs2]
  | .cMul rd rs1 rs2 => regDefect n [rd, rs1, rs2]
  | .cDiv rd rs1 rs2 => regDefect n [rd, rs1, rs2]
  | .cFadd rd rs1 rs2 => regDefect n [rd, rs1, rs2]
  | .cFsub rd rs1 rs2 => regDefect n [rd, rs1, rs2]
  | .cFmul rd rs1 rs2 => regDefect n [rd, rs1, rs2]
  | .cFdiv rd rs1 rs2 => regDefect n [rd, rs1, rs2]
  | .cMerge _ _ _ => none
  | .cThresh rd _ => cellDefect n rd
  | .cBoost _ _ _ => none
  | .cDecay _ _ _ => none
  | .cSource _ _ _ => none
  | .cCalib _ _ _ => none
  | .cExply _ _ _ => none
  | .cVote _ _ _ => none
  -- Viewpoint, 0x70..0x7F (Format E)
  | .vEvid _ _ _ => none
  | .vEpist _ _ _ => none
  | .vMir _ _ _ => none
  | .vNeg _ _ _ => none
  | .vTense _ _ _ => none
  | .vAspec _ _ _ => none
  | .vModal _ _ _ => none
  | .vPolit _ _ _ => none
  | .vHonor _ _ _ => none
  | .vTopic _ _ _ => none
  | .vFocus _ _ _ => none
  | .vCase _ _ _ => none
  | .vAgree _ _ _ => none
  | .vClass _ _ _ => none
  | .vInfl _ _ _ => none
  | .vPragma _ _ _ => none
  -- Sensor, 0x80..0x8F (Format E)
  | .sense _ _ _ => none
  | .actuate _ _ _ => none
  | .sample _ _ _ => none
  | .energy _ _ _ => none
  | .temp _ _ _ => none
  | .gps _ _ _ => none
  | .accel _ _ _ => none
  | .depth _ _ _ => none
  | .camcap _ _ _ => none
  | .camdet _ _ _ => none
  | .pwm _ _ _ => none
  | .gpio _ _ _ => none
  | .i2c _ _ _ => none
  | .spi _ _ _ => none
  | .uart _ _ _ => none
  | .canbus _ _ _ => none
  -- Extended math and crypto, 0x90..0x9F (Format E)
  | .abs rd rs1 _ => regDefect n [rd, rs1]
  | .sign rd rs1 _ => regDefect n [rd, rs1]
  | .sqrt rd rs1 _ => regDefect n [rd, rs1]
  | .pow rd rs1 rs2 => regDefect n [rd, rs1, rs2]
  | .log2 rd rs1 _ => regDefect n [rd, rs1]
  | .clz rd rs1 _ => regDefect n [rd, rs1]
  | .ctz rd rs1 _ => regDefect n [rd, rs1]
  | .popcnt rd rs1 _ => regDefect n [rd, rs1]
  | .crc32 rd rs1 rs2 => regDefect n [rd, rs1, rs2]
  | .sha256 _ _ _ => none
  | .rnd rd rs1 rs2 => regDefect n [rd, rs1, rs2]
  | .seed rd rs1 _ => regDefect n [rd, rs1]
  | .fmod rd rs1 rs2 => regDefect n [rd, rs1, rs2]
  | .fsqrt rd rs1 _ => regDefect n [rd, rs1]
  | .fsin rd rs1 _ => regDefect n [rd, rs1]
  | .fcos rd rs1 _ => regDefect n [rd, rs1]
  -- Collections and crypto, 0xA0..0xAF (Format E; LEN: D, SLICE: G)
  | .len _ _ => none
  | .concat _ _ _ => none
  | .collAt _ _ _ => none
  | .setat _ _ _ => none
  | .slice _ _ _ => none
  | .reduce _ _ _ => none
  | .map _ _ _ => none
  | .filter _ _ _ => none
  | .sort _ _ _ => none
  | .find _ _ _ => none
  | .hash _ _ _ => none
  | .hmac _ _ _ => none
  | .verify _ _ _ => none
  | .encrypt _ _ _ => none
  | .decrypt _ _ _ => none
  | .keygen _ _ _ => none
  -- Vector, 0xB0..0xBF (Format E)
  | .vload _ _ _ => none
  | .vstore _ _ _ => none
  | .vadd _ _ _ => none
  | .vmul _ _ _ => none
  | .vdot _ _ _ => none
  | .vnorm _ _ _ => none
  | .vscale _ _ _ => none
  | .vmaxp _ _ _ => none
  | .vminp _ _ _ => none
  | .vreduce _ _ _ => none
  | .vgather _ _ _ => none
  | .vscatter _ _ _ => none
  | .vshuf _ _ _ => none
  | .vmerge _ _ _ => none
  | .vconf _ _ _ => none
  | .vselect _ _ _ => none
  -- Tensor, 0xC0..0xCF (Format E)
  | .tmatmul _ _ _ => none
  | .tconv _ _ _ => none
  | .tpool _ _ _ => none
  | .trelu _ _ _ => none
  | .tsigm _ _ _ => none
  | .tsoft _ _ _ => none
  | .tloss _ _ _ => none
  | .tgrad _ _ _ => none
  | .tupdate _ _ _ => none
  | .tadam _ _ _ => none
  | .tembed _ _ _ => none
  | .tattn _ _ _ => none
  | .tsample _ _ _ => none
  | .ttoken _ _ _ => none
  | .tdetok _ _ _ => none
  | .tquant _ _ _ => none
  -- Extended memory and I/O, 0xD0..0xDF (Format G)
  | .dmaCpy _ _ _ => none
  | .dmaSet _ _ _ => none
  | .mmioR _ _ _ => none
  | .mmioW _ _ _ => none
  | .atomic rd rs1 imm16 => (regDefect n [rd, rs1]).or (defectIf (decide (0x8000 ≤ imm16.toNat)) .imm16Signedness)
  | .cas _ _ _ => none
  | .fence _ _ _ => none
  | .malloc _ _ _ => none
  | .free _ _ _ => none
  | .mprot _ _ _ => none
  | .mcache _ _ _ => none
  | .gpuLd _ _ _ => none
  | .gpuSt _ _ _ => none
  | .gpuEx _ _ _ => none
  | .gpuSync _ _ _ => none
  | .reservedDF => some .noInstruction
  -- Long jumps, coroutines, debug, 0xE0..0xEF (Format F)
  | .jmpl _ _ => none
  | .jall rd _ => regDefect n [rd]
  | .calll rd _ => regDefect n [rd]
  | .tail _ _ => none
  | .switch _ _ => none
  | .coyield _ _ => none
  | .coresum _ _ => none
  | .fault _ _ => none
  | .handler _ _ => none
  | .trace _ _ => none
  | .profOn _ _ => none
  | .profOff _ _ => none
  | .watch _ _ => none
  | .reservedED => some .noInstruction
  | .reservedEE => some .noInstruction
  | .reservedEF => some .noInstruction
  -- Extended system, 0xF0..0xFF (Format A)
  | .haltErr => none
  | .reboot => none
  | .dump => none
  | .assert => none
  | .id => none
  | .ver => none
  | .clk => none
  | .pclk => none
  | .wdog => none
  | .sleep => none
  | .reservedFA => some .noInstruction
  | .reservedFB => some .noInstruction
  | .reservedFC => some .noInstruction
  | .reservedFD => some .noInstruction
  | .reservedFE => some .noInstruction
  | .illegal => some .noInstruction

/-- An instruction every static check accepts, for a VM with NREG registers. -/
abbrev Instr.WellFormed (n : RegCount) (i : Instr) : Prop := i.defect n = none

end Sys2Proof
end

