-- ==== Sys2Proof/Safety.lean ====
section
/-! DEFINITION. The terms claims are stated in: how a run ends (spec/60_exceptions.md R604), the invariant of the machine,
what an instruction leaves unchanged, and when its operands are valid. -/

namespace Sys2Proof.Machine

/-! ### The outcomes of a run -/

/-- The five outcomes of a run and the running state (60_exceptions.md R604). -/
inductive Status where
  /-- HALT, or RET on an empty stack: the only successful end. -/
  | halted
  /-- The cycle budget is spent. -/
  | outOfCycles
  /-- A trap (60_exceptions.md R601). -/
  | faulted (f : Fault)
  /-- The spec gives no meaning (60_exceptions.md R602). -/
  | refused (r : Refusal)
  /-- No step is enabled: WFI (60_exceptions.md R603). -/
  | stuck
  /-- One step is enabled. -/
  | running
  deriving DecidableEq, Repr

/-- Which of them holds of a state (60_exceptions.md R604). -/
def State.status (s : State) : Status :=
  if s.halted then .halted
  else if s.params.maxCycles ≤ s.cycles then .outOfCycles
  else
    match step s with
    | .next _ => .running
    | .fault (.stuck _) => .stuck
    | .fault f => .faulted f
    | .refused r => .refused r

/-- A run is safe so far when it is running, halted or out of cycles (60_exceptions.md R604). -/
def Status.safe : Status → Bool
  | .halted => true
  | .outOfCycles => true
  | .running => true
  | .faulted _ => false
  | .refused _ => false
  | .stuck => false

/-! ### The invariant -/

/-- What holds of the state after reset and of every state a step gives from one it holds of. -/
structure State.Inv (s : State) : Prop where
  /-- The data memory has its canonical form, inside MEM_SIZE (20_memory.md R81). -/
  mem : s.mem.wf = true
  /-- So has the heap region's data (20_memory.md R80). -/
  heap : s.heap.wf = true
  /-- The budget is never exceeded (10_state.md R45; 70_reset_and_hazards.md R656). -/
  cycles : s.cycles ≤ s.params.maxCycles
  /-- The cell of the hardwired register keeps its value (10_state.md R32). -/
  zero : s.x[0] = 0
  /-- The region table is the two default regions (20_memory.md R80). -/
  regions : s.regions = defaultRegions

/-! ### Valid operands -/

/-- Every byte names a 32-bit register (10_state.md R36, R37). -/
def Regs32 (s : State) (rs : List Byte) : Prop := ∀ r ∈ rs, r.toNat < s.params.nreg.count ∧ r.toNat < 48

/-- The byte names a register, of any bank (10_state.md R37, R60). -/
def NamesCell (s : State) (r : Byte) : Prop := r.toNat < s.params.nreg.count

/-! ### What stays the same from `s` to `t` -/

/-- What no instruction changes: the heap region, the region table, the bytecode, the parameters. -/
def SameEnvironment (s t : State) : Prop :=
  t.heap = s.heap ∧ t.regions = s.regions ∧ t.code = s.code ∧ t.params = s.params

/-- Every 32-bit register but those listed, and every vector register. -/
def SameRegs (but : List Byte) (s t : State) : Prop := (∀ r, r ∉ but → t.getX r = s.getX r) ∧ t.v = s.v

/-- Every confidence cell but those listed. -/
def SameCells (but : List Byte) (s t : State) : Prop := ∀ r, r ∉ but → t.getC r = s.getC r

/-- The confidence file and the accumulator. -/
def SameConfidence (s t : State) : Prop := t.conf = s.conf ∧ t.cacc = s.cacc

/-- The S, C and O flags. -/
def SameFlagsButZ (s t : State) : Prop := t.flags.s = s.flags.s ∧ t.flags.c = s.flags.c ∧ t.flags.o = s.flags.o

/-- The C and O flags. -/
def SameFlagsButZS (s t : State) : Prop := t.flags.c = s.flags.c ∧ t.flags.o = s.flags.o

/-- Every byte of data memory. -/
def SameMemory (s t : State) : Prop := ∀ b, t.mem.get b = s.mem.get b

/-- Every byte of data memory outside the `n` bytes from `a` on. -/
def SameMemoryOutside (a : Int) (n : Nat) (s t : State) : Prop :=
  ∀ b : Nat, (b : Int) < a ∨ a + n ≤ b → t.mem.get b = s.mem.get b

/-- `halted`, `cycles`, the seed, the emitted events, and what no instruction changes. -/
def SameRun (s t : State) : Prop :=
  t.halted = s.halted ∧ t.cycles = s.cycles ∧ t.seed = s.seed ∧ t.debugOut = s.debugOut ∧ SameEnvironment s t

/-! ### How an instruction completes

Each says that `exec i s` answers a next state, what that state holds, and that nothing else of it differs from `s` but what is
named: the flags the rule leaves open, and the count of draws. -/

/-- The four bytes from `a` on hold `v`, the least significant first (20_memory.md R83). -/
def Stored (t : State) (a : Int) (v : Word) : Prop :=
  t.mem.get a.toNat = v.extractLsb' 0 8 ∧ t.mem.get (a.toNat + 1) = v.extractLsb' 8 8 ∧
    t.mem.get (a.toNat + 2) = v.extractLsb' 16 8 ∧ t.mem.get (a.toNat + 3) = v.extractLsb' 24 8

/-- `rd` reads as `r`, R0 as 0 (10_state.md R32), no other register changes, and no memory, confidence or run state. -/
def WritesReg (s t : State) (rd : Byte) (r : Word) : Prop :=
  t.getX rd = (if rd = 0 then 0 else r) ∧ SameRegs [rd] s t ∧ SameConfidence s t ∧ SameMemory s t ∧ SameRun s t

/-- `x[rd] <- r; SetFlagsZS(r); pc <- npc`. -/
def CompletesZS (i : Instr) (s : State) (rd : Byte) (r : Word) (len : Nat) : Prop :=
  ∃ t, exec i s = .next t ∧ t.pc = s.pc + len ∧ WritesReg s t rd r ∧ t.flags.z = (r == 0) ∧ t.flags.s = r.msb

/-- `x[rd] <- r; FlagsAny(); pc <- npc`. -/
def CompletesAny (i : Instr) (s : State) (rd : Byte) (r : Word) (len : Nat) : Prop :=
  ∃ t, exec i s = .next t ∧ t.pc = s.pc + len ∧ WritesReg s t rd r

/-- `x[rd] <- r; pc <- npc`, the flags unchanged. -/
def CompletesX (i : Instr) (s : State) (rd : Byte) (r : Word) (len : Nat) : Prop :=
  ∃ t, exec i s = .next t ∧ t.pc = s.pc + len ∧ WritesReg s t rd r ∧ t.flags = s.flags

/-- `x[rd] <- r; Z <- (r = 0); pc <- npc`, the other flags unchanged. -/
def CompletesZ (i : Instr) (s : State) (rd : Byte) (r : Word) (len : Nat) : Prop :=
  ∃ t, exec i s = .next t ∧ t.pc = s.pc + len ∧ WritesReg s t rd r ∧ t.flags.z = (r == 0) ∧ SameFlagsButZ s t

/-- `x[rd] <- r; Z <- (r = 0); S <- r[31]; pc <- npc`, C and O unchanged. -/
def CompletesZAndS (i : Instr) (s : State) (rd : Byte) (r : Word) (len : Nat) : Prop :=
  ∃ t, exec i s = .next t ∧ t.pc = s.pc + len ∧ WritesReg s t rd r ∧ t.flags.z = (r == 0) ∧ t.flags.s = r.msb ∧
    SameFlagsButZS s t

/-- `x[rd] <- r; Z <- (r = 0x80000000) ? any : (r = 0); pc <- npc`, the other flags unchanged. -/
def CompletesZFloat (i : Instr) (s : State) (rd : Byte) (r : Word) (len : Nat) : Prop :=
  ∃ t, exec i s = .next t ∧ t.pc = s.pc + len ∧ WritesReg s t rd r ∧
    (r ≠ 0x80000000 → t.flags.z = (r == 0)) ∧ SameFlagsButZ s t

/-- `MemWrite(a, 4, v); pc <- npc`, no register and no flag changed. -/
def CompletesStore (i : Instr) (s : State) (a : Int) (v : Word) (len : Nat) : Prop :=
  ∃ t, exec i s = .next t ∧ t.pc = s.pc + len ∧ Stored t a v ∧ SameMemoryOutside a 4 s t ∧ SameRegs [] s t ∧
    t.flags = s.flags ∧ SameConfidence s t ∧ SameRun s t

/-- `Push(v); pc <- p`: the word is stored below SP, SP is the address stored to, no flag changed (20_memory.md R92). -/
def CompletesPush (i : Instr) (s : State) (v : Word) (p : Int) : Prop :=
  ∃ t, exec i s = .next t ∧ t.pc = p ∧ t.sp = s.pushAddr ∧ Stored t (u32 s.pushAddr) v ∧
    SameMemoryOutside (u32 s.pushAddr) 4 s t ∧ SameRegs [spReg] s t ∧ t.flags = s.flags ∧ SameConfidence s t ∧ SameRun s t

/-- The register and confidence result of a C_* instruction: `x[rd] <- r; c[rd] <- k; pc <- npc`. -/
def WritesRegAndCell (s t : State) (rd : Byte) (r : Word) (k : Conf) : Prop :=
  t.getX rd = (if rd = 0 then 0 else r) ∧ t.getC rd = k ∧ SameRegs [rd] s t ∧ SameCells [rd] s t ∧ t.cacc = s.cacc ∧
    SameMemory s t ∧ SameRun s t

/-- `x[rd] <- r; c[rd] <- k; SetFlagsZS(r); pc <- npc`. -/
def CompletesConfZS (i : Instr) (s : State) (rd : Byte) (r : Word) (k : Conf) : Prop :=
  ∃ t, exec i s = .next t ∧ t.pc = s.pc + 4 ∧ WritesRegAndCell s t rd r k ∧ t.flags.z = (r == 0) ∧ t.flags.s = r.msb

/-- `x[rd] <- r; c[rd] <- k; FlagsAny(); pc <- npc`. -/
def CompletesConfAny (i : Instr) (s : State) (rd : Byte) (r : Word) (k : Conf) : Prop :=
  ∃ t, exec i s = .next t ∧ t.pc = s.pc + 4 ∧ WritesRegAndCell s t rd r k

/-- The same end, but for the confidence file, the flags and the draws: both complete with the same registers, memory and
`pc`, or both stop for the same reason (48_confidence_a2a.md R528). -/
def SameButConfidence (a b : Result) : Prop :=
  match a, b with
  | .next t, .next u => t.x = u.x ∧ t.v = u.v ∧ t.mem = u.mem ∧ t.pc = u.pc
  | .fault f, .fault g => f = g
  | .refused q, .refused r => q = r
  | _, _ => False

/-- The four bytes of an access at `a` are inside M (20_memory.md R84). -/
def InMemory (a : Int) (n : Nat) : Prop := 0 ≤ a ∧ a + n ≤ 65536

/-- The loop takes a step (10_state.md R41). -/
def Runs (s : State) : Prop := s.halted = false ∧ s.cycles < s.params.maxCycles

/-- What `step` makes of what `exec` answers: a completed instruction is counted (10_state.md R41, R45). -/
def Counted (r : Result) : Result :=
  match r with
  | .next t => .next t.tick
  | .fault f => .fault f
  | .refused q => .refused q

/-- The opcode byte of an instruction (30_encoding.md R120). -/
def opcodeOf (i : Instr) : Byte := (encode .little i).headD 0

/-- The value of a finite pattern as a rational number (43_float_memory_control.md R291). -/
def realOf (p : Word) : Rat := (Fnum.value p : Rat) / (2 ^ 149 : Nat)

end Sys2Proof.Machine
end

