-- ==== Sys2Proof/Certificates/Slice0/Obligations.lean ====
section
/-! DEFINITION. The statements for the provers. A statement names the hypotheses it needs; the terms it is stated in are those
of Safety.lean and of the machine itself. -/

open Sys2Proof Sys2Proof.Machine

/-- For both IMM16_ORDERs, every instruction of all 256 opcode rows with every operand byte and immediate, and every byte
string after it, decoding the encoding followed by the string answers the instruction and leaves the string.
(30_encoding.md sections 1 to 3) -/
def Obligations.DecodeOfEncode : Prop :=
  ∀ (o : ByteOrder) (i : Instr) (rest : List Byte), decode o (encode o i ++ rest) = .ok (i, rest)

/-- For both IMM16_ORDERs: where a byte string decodes to an instruction and a rest, it is that instruction's encoding
followed by the rest. So no byte is dropped, and two byte strings that decode to the same instruction and rest are the
same. (An Instr keeps the operand bytes that its instruction ignores, which is the model's choice, log 44: by R135 two
encodings that differ only in such a byte have the same effect.) (30_encoding.md sections 1 to 3; log 44) -/
def Obligations.EncodeOfDecode : Prop :=
  ∀ (o : ByteOrder) (bs : List Byte) (i : Instr) (rest : List Byte),
    decode o bs = .ok (i, rest) → bs = encode o i ++ rest

/-- A string that starts with an opcode byte whose row has a length L decodes to an instruction of that opcode byte,
taking exactly L bytes, when it holds L bytes, and is refused as truncated when it does not; one that starts with a
reserved slot or ILLEGAL decodes, from that byte alone, to the instruction of that opcode byte. (30_encoding.md
section 5) -/
def Obligations.DecodeByOpcodeByteAlone : Prop :=
  ∀ (o : ByteOrder) (op : Byte) (operands : List Byte),
    (opLength op = none → ∃ i, decode o (op :: operands) = .ok (i, operands) ∧ opcodeOf i = op) ∧
    (∀ len, opLength op = some len →
      (len ≤ operands.length + 1 →
        ∃ i, decode o (op :: operands) = .ok (i, operands.drop (len - 1)) ∧ opcodeOf i = op) ∧
      (operands.length + 1 < len → decode o (op :: operands) = .error (.truncated op)))

/-- For each of the 256 opcode bytes: for the nine reserved slots and ILLEGAL, which fault on the opcode byte alone,
none, which is the model's own representation of a length that is never used (log 44); otherwise the length the table
of the spec gives its range, with 0x69 and 0xA0 of 3 bytes and 0xA4 of 5. (30_encoding.md sections 1 and 5, R122 and
R154; log 44) -/
def Obligations.OpcodeLengths : Prop :=
  ∀ op : Byte,
    opLength op =
      if op ∈ [0xDF, 0xED, 0xEE, 0xEF, 0xFA, 0xFB, 0xFC, 0xFD, 0xFE, 0xFF] then none
      else if op ≤ 0x07 then some 1
      else if op ≤ 0x17 then some 2
      else if op ≤ 0x1F ∨ op = 0x69 ∨ op = 0xA0 then some 3
      else if (0x48 ≤ op ∧ op ≤ 0x4F) ∨ op = 0xA4 ∨ (0xD0 ≤ op ∧ op ≤ 0xDF) then some 5
      else if 0xF0 ≤ op then some 1
      else some 4

/-- Sixteen byte strings that the rules and programs of the spec write out, of formats A to G and of most families, decode
to the instructions the spec names beside them. (95_test_vectors.md, 44_imm16_and_frames.md section 2) -/
def Obligations.DecodeOfSpecWords : Prop :=
  decode .little [0x00] = .ok (.halt, []) ∧
  decode .little [0x08, 0x01] = .ok (.inc 1, []) ∧
  decode .little [0x16, 0x02] = .ok (.cache 2, []) ∧
  decode .little [0x18, 0x03, 0xF6] = .ok (.movi 3 0xF6, []) ∧
  decode .little [0x20, 0x03, 0x03, 0x05] = .ok (.add 3 3 5, []) ∧
  decode .little [0x30, 0x20, 0x21, 0x22] = .ok (.fadd 32 33 34, []) ∧
  decode .little [0x3D, 0x01, 0x03, 0x00] = .ok (.jnz 1 3 0, []) ∧
  decode .little [0x40, 0x01, 0x34, 0x12] = .ok (.movi16 1 0x1234, []) ∧
  decode .hiFirst [0x40, 0x01, 0x12, 0x34] = .ok (.movi16 1 0x1234, []) ∧
  decode .little [0x48, 0x03, 0x0E, 0xFC, 0xFF] = .ok (.loadoff 3 14 0xFFFC, []) ∧
  decode .little [0x50, 0x01, 0x02, 0x03] = .ok (.tell 1 2 3, []) ∧
  decode .little [0x69, 0x01, 0x80, 0x08, 0x02] = .ok (.cThresh 1 0x80, [0x08, 0x02]) ∧
  decode .little [0x93, 0x03, 0x01, 0x02] = .ok (.pow 3 1 2, []) ∧
  decode .little [0xA4, 0x01, 0x02, 0x03, 0x00] = .ok (.slice 1 2 3, []) ∧
  decode .little [0xD4, 0x02, 0x01, 0x04, 0x00] = .ok (.atomic 2 1 4, []) ∧
  decode .little [0xE2, 0x00, 0x0C, 0x00] = .ok (.calll 0 12, [])

/-- Where the loop runs and the bytecode from pc on decodes to an instruction, step answers what exec answers for it in
that state: the next state with cycles one higher, or the same fault or refusal. (10_state.md section 3) -/
def Obligations.StepRunsDecodedInstruction : Prop :=
  ∀ (s : State) (i : Instr) (rest : List Byte), Runs s →
    decode s.params.imm16Order (s.codeFrom s.pc) = .ok (i, rest) → step s = Counted (exec i s)

/-- Under the default IMM16_ORDER, for every state (ended or not, with any bytecode and any pc) and every word the decoder
reads as an instruction: the step of the state with the word placed answers what exec answers for that instruction
there, counted. (10_state.md section 3, 30_encoding.md section 1) -/
def Obligations.StepRunsPlacedWord : Prop :=
  ∀ (s : State) (nbits w : Nat) (i : Instr), s.params.imm16Order = .little →
    decodeTableWord nbits w = some i →
    step (s.withFetchWord nbits w) = Counted (exec i (s.withFetchWord nbits w))

/-- Where the loop runs and pc is negative, or at or past the end of the bytecode, or at an opcode byte whose instruction
does not end inside it, step answers FetchFault with pc. (10_state.md section 3, 60_exceptions.md section 3) -/
def Obligations.FetchOutsideBytecodeFaults : Prop :=
  ∀ s : State, Runs s →
    (s.pc < 0 ∨ (s.code.length : Int) ≤ s.pc ∨
      ∃ op len, s.code[s.pc.toNat]? = some op ∧ opLength op = some len ∧ (s.code.length : Int) < s.pc + len) →
    step s = .fault (.fetchFault s.pc)

/-- A step answers IllegalOpcode(op) exactly where the loop runs, pc is inside the bytecode and the byte there is op, one
of the ten: whatever bytes follow it or are missing, and at no other opcode byte. (R605) -/
def Obligations.IllegalOpcodeExactlyAtReservedSlots : Prop :=
  ∀ (s : State) (op : Byte),
    step s = .fault (.illegalOpcode op) ↔
      Runs s ∧ 0 ≤ s.pc ∧ s.code[s.pc.toNat]? = some op ∧
        op ∈ [0xDF, 0xED, 0xEE, 0xEF, 0xFA, 0xFB, 0xFC, 0xFD, 0xFE, 0xFF]

/-- Where a step answers a next state: if the loop runs, cycles has risen by exactly 1. (At the end of a run the model's
step leaves the state as it is: the model's choice, log 12.) (10_state.md section 3) -/
def Obligations.StepCountsOneCycle : Prop :=
  ∀ s t : State, step s = .next t →
    (Runs s → t.cycles = s.cycles + 1) ∧ (¬ Runs s → t = s)

/-- A state is stuck exactly when the loop runs and the byte at pc is WFI's, 0x05. (R603) -/
def Obligations.WfiAloneIsStuck : Prop :=
  ∀ s : State,
    s.status = .stuck ↔ Runs s ∧ 0 ≤ s.pc ∧ s.code[s.pc.toNat]? = some 0x05

/-- From every state with the memory and the heap region in canonical form inside MEM_SIZE, the cell of R0 at 0, cycles at
most MAX_CYCLES and the region table the two default regions, a step that answers a next state answers one with the
same. (20_memory.md section 1, 10_state.md sections 2 and 3) -/
def Obligations.InvariantKeptByEveryStep : Prop :=
  ∀ s t : State, s.Inv → step s = .next t → t.Inv

/-- State.reset has the invariant that every step keeps. (70_reset_and_hazards.md section 1) -/
def Obligations.InvariantHoldsAtReset : Prop :=
  State.reset.Inv

/-- For every bytecode, INIT_MEM, heap data, parameters and initial confidence: every 32-bit register reads 0 but SP,
which is 65536; the vector registers and flags are 0; pc 0, seed unset; halted false and cycles 0 (DEDUCED, log 45);
the regions are "stack" and "heap" of 65536 bytes each, owner "system", without borrowers; the memory is INIT_MEM, the
heap data and the confidence cells are those given, the bytecode is that given (the field is the model's, log 2). No
DebugPrint event has been emitted (the model's own field, log 34); of the model's draw count nothing is said. An empty
bytecode faults at the first fetch unless MAX_CYCLES is 0. (70_reset_and_hazards.md section 1, 10_state.md section 8;
logs 2, 5, 34, 45) -/
def Obligations.InitialStateValues : Prop :=
  ∀ (code : List Byte) (initMem initHeap : Memory) (params : Params) (cells : Vector Conf 64) (acc : Conf),
    let s := State.initial code initMem initHeap params cells acc
    (∀ r : Byte, r ≠ 11 → s.getX r = 0) ∧ s.sp = 65536 ∧ (∀ k (h : k < 16), s.v[k] = 0) ∧
    s.flags = ⟨false, false, false, false⟩ ∧ s.pc = 0 ∧ s.halted = false ∧ s.cycles = 0 ∧ s.seed = none ∧
    s.regions = [⟨"stack", 65536, "system", []⟩, ⟨"heap", 65536, "system", []⟩] ∧ s.heap = initHeap ∧ s.debugOut = [] ∧
    s.mem = initMem ∧ s.conf = cells ∧ s.cacc = acc ∧ s.code = code ∧ s.params = params ∧
    (code = [] → 0 < params.maxCycles → step s = .fault (.fetchFault 0))

/-- Where a step answers a next state, the bytecode, the run parameters, the region table and the heap region's data are
those of the state before. In particular no store is ever seen by a later fetch. (20_memory.md sections 1 and 5,
10_state.md section 1) -/
def Obligations.NoInstructionWritesCodeOrRegions : Prop :=
  ∀ s t : State, step s = .next t → SameEnvironment s t

/-- Where exec answers a next state: halted stays set if it was; and if it becomes set, the instruction is HALT, or RET
with SP at STACK_TOP. (10_state.md section 3, 40_system_control.md section 1) -/
def Obligations.OnlyHaltAndRetHalt : Prop :=
  ∀ (i : Instr) (s t : State), exec i s = .next t →
    (s.halted = true → t.halted = true) ∧
    (s.halted = false → t.halted = true → i = .halt ∨ (i = .ret ∧ u32 s.sp = 65536))

/-- Where exec answers a next state: the confidence file is unchanged unless the instruction is CONF_ST, C_ADD to
C_FDIV, or RESET; the accumulator is unchanged unless it is CONF_LD or RESET; the PRNG seed unless it is SEED; the
emitted events unless it is DBG; the sixteen 128-bit registers unless it is RESET; and the data memory unless it is
PUSH, STORE, CALL, CALLL, STOREOFF, STOREI, COPY, FILL or ATOMIC. (48_confidence_a2a.md section 1, 10_state.md
sections 2 and 7, 60_exceptions.md section 7, 20_memory.md section 2) -/
def Obligations.OnlyTheirInstructionsWrite : Prop :=
  (∀ (i : Instr) (s t : State), exec i s = .next t →
    (opcodeOf i ∉ [0x0F, 0x60, 0x61, 0x62, 0x63, 0x64, 0x65, 0x66, 0x67, 0x06] → t.conf = s.conf) ∧
    (opcodeOf i ∉ [0x0E, 0x06] → t.cacc = s.cacc)) ∧
  (∀ (i : Instr) (s t : State), exec i s = .next t →
    (opcodeOf i ≠ 0x9B → t.seed = s.seed) ∧ (opcodeOf i ≠ 0x12 → t.debugOut = s.debugOut) ∧
    (opcodeOf i ≠ 0x06 → t.v = s.v)) ∧
  (∀ (i : Instr) (s t : State), exec i s = .next t →
    opcodeOf i ∉ [0x0C, 0x39, 0x45, 0xE2, 0x49, 0x4B, 0x4E, 0x4F, 0xD4] → t.mem = s.mem)

/-- Where exec answers a next state for one of the 39 instructions the rule on unchanged flags lists (HALT to C_THRESH),
all four flags are those of the state before. (10_state.md section 4) -/
def Obligations.FlagsUnchangedByDataMovesAndTransfers : Prop :=
  ∀ (i : Instr) (s t : State), exec i s = .next t →
    opcodeOf i ∈ [0x00, 0x01, 0x02, 0x06, 0x07, 0x0C, 0x0D, 0x0E, 0x0F, 0x12, 0x15, 0x16, 0x18, 0x38, 0x39, 0x3A, 0x3B,
      0x3C, 0x3D, 0x3E, 0x3F, 0x40, 0x43, 0x44, 0x45, 0x47, 0x48, 0x49, 0x4A, 0x4B, 0x4E, 0x4F, 0x69, 0x9A, 0x9B, 0xD4,
      0xE0, 0xE1, 0xE2] →
    t.flags = s.flags

/-- Where exec answers a fault: IllegalOpcode comes from the ten reserved opcode bytes, MemoryFault from the fifteen
instructions of the table, DivideByZero from DIV, MOD, FDIV, C_DIV, C_FDIV, DomainError from LOG2 and FSQRT,
Breakpoint from BRK, FetchFault from C_THRESH. The stuck end, which the fault table does not list and the model
answers in the form of a fault of its own name (R603; DESIGN CHOICE, log 13), comes from WFI. (60_exceptions.md
section 3, R612, and section 2, R603; log 13) -/
def Obligations.FaultsOnlyFromTheirInstructions : Prop :=
  ∀ (i : Instr) (s : State) (f : Fault), exec i s = .fault f →
    match f with
    | .illegalOpcode op => op = opcodeOf i ∧ op ∈ [0xDF, 0xED, 0xEE, 0xEF, 0xFA, 0xFB, 0xFC, 0xFD, 0xFE, 0xFF]
    | .memoryFault _ => opcodeOf i ∈
        [0x38, 0x39, 0x0C, 0x0D, 0x02, 0x45, 0xE2, 0x48, 0x49, 0x4A, 0x4B, 0x4E, 0x4F, 0xD4, 0x98]
    | .fetchFault _ => opcodeOf i = 0x69
    | .divideByZero _ => opcodeOf i ∈ [0x23, 0x24, 0x33, 0x63, 0x67]
    | .domainError _ => opcodeOf i ∈ [0x94, 0x9D]
    | .breakpoint _ => opcodeOf i = 0x04
    | .stuck _ => opcodeOf i = 0x05

/-- For every state and instruction: where a static check finds a defect (a register byte of NREG or more first, then one
of 48..63 in a 32-bit position, then the rule's own), exec refuses with that reason; a reserved slot or ILLEGAL raises
IllegalOpcode instead. (60_exceptions.md section 4, 10_state.md section 2) -/
def Obligations.IllFormedInstructionsStop : Prop :=
  ∀ (i : Instr) (s : State) (d : Defect), i.defect s.params.nreg = some d →
    exec i s =
      match d with
      | .noInstruction => .fault (.illegalOpcode (opcodeOf i))
      | .registerOutOfRange => .refused .registerOutOfRange
      | .vectorRegisterAs32Bit => .refused .vectorRegisterAs32Bit
      | .popIntoSP => .refused .popIntoSP
      | .dbgOperand => .refused .dbgOperand
      | .cacheOperation => .refused .cacheOperation
      | .shiftCount => .refused .shiftCount
      | .imm16Signedness => .refused .imm16Signedness

/-- For every operand and state each of the fourteen (IRET, SYS, TRAP, SEMA, STRIPCF, ENTER, LEAVE; C_MERGE, C_BOOST,
C_DECAY, C_SOURCE, C_CALIB, C_EXPLY, C_VOTE) ends refused, by the reason its rule names. (40_system_control.md section
1, 41_single_reg_and_imm.md section 2, 44_imm16_and_frames.md section 3, 48_confidence_a2a.md section 1) -/
def Obligations.SystemAndConfidenceRefusals : Prop :=
  (∀ (s : State), exec .iret s = .refused (.noInterruptModel "IRET")) ∧
  (∀ (imm8 : Byte) (s : State), exec (.sys imm8) s = .refused (.noHostInterface "SYS")) ∧
  (∀ (imm8 : Byte) (s : State), exec (.trap imm8) s = .refused (.noVectorTable "TRAP")) ∧
  (∀ (imm8 : Byte) (s : State), exec (.sema imm8) s = .refused (.undefinedEffect "SEMA")) ∧
  (∀ (imm8 : Byte) (s : State), exec (.stripcf imm8) s = .refused (.undefinedEffect "STRIPCF")) ∧
  (∀ (rd rs1 : Byte) (imm16 : Half) (s : State), exec (.enter rd rs1 imm16) s = .refused (.undefinedEffect "ENTER")) ∧
  (∀ (rd rs1 : Byte) (imm16 : Half) (s : State), exec (.leave rd rs1 imm16) s = .refused (.undefinedEffect "LEAVE")) ∧
  (∀ (rd rs1 rs2 : Byte) (s : State), exec (.cMerge rd rs1 rs2) s = .refused (.weightsUndefined "C_MERGE")) ∧
  (∀ (rd rs1 rs2 : Byte) (s : State), exec (.cBoost rd rs1 rs2) s = .refused (.undefinedEffect "C_BOOST")) ∧
  (∀ (rd rs1 rs2 : Byte) (s : State), exec (.cDecay rd rs1 rs2) s = .refused (.undefinedEffect "C_DECAY")) ∧
  (∀ (rd rs1 rs2 : Byte) (s : State), exec (.cSource rd rs1 rs2) s = .refused (.undefinedEffect "C_SOURCE")) ∧
  (∀ (rd rs1 rs2 : Byte) (s : State), exec (.cCalib rd rs1 rs2) s = .refused (.undefinedEffect "C_CALIB")) ∧
  (∀ (rd rs1 rs2 : Byte) (s : State), exec (.cExply rd rs1 rs2) s = .refused (.undefinedEffect "C_EXPLY")) ∧
  (∀ (rd rs1 rs2 : Byte) (s : State), exec (.cVote rd rs1 rs2) s = .refused (.undefinedEffect "C_VOTE"))

/-- For every operand and state each of TELL to HEARTBT ends refused for want of a handler, not with a fault. (R530) -/
def Obligations.AgentToAgentRefusals : Prop :=
  (∀ (rd rs1 rs2 : Byte) (s : State), exec (.tell rd rs1 rs2) s = .refused (.noHandler "TELL")) ∧
  (∀ (rd rs1 rs2 : Byte) (s : State), exec (.ask rd rs1 rs2) s = .refused (.noHandler "ASK")) ∧
  (∀ (rd rs1 rs2 : Byte) (s : State), exec (.deleg rd rs1 rs2) s = .refused (.noHandler "DELEG")) ∧
  (∀ (rd rs1 rs2 : Byte) (s : State), exec (.bcast rd rs1 rs2) s = .refused (.noHandler "BCAST")) ∧
  (∀ (rd rs1 rs2 : Byte) (s : State), exec (.accept rd rs1 rs2) s = .refused (.noHandler "ACCEPT")) ∧
  (∀ (rd rs1 rs2 : Byte) (s : State), exec (.decline rd rs1 rs2) s = .refused (.noHandler "DECLINE")) ∧
  (∀ (rd rs1 rs2 : Byte) (s : State), exec (.report rd rs1 rs2) s = .refused (.noHandler "REPORT")) ∧
  (∀ (rd rs1 rs2 : Byte) (s : State), exec (.merge rd rs1 rs2) s = .refused (.noHandler "MERGE")) ∧
  (∀ (rd rs1 rs2 : Byte) (s : State), exec (.fork rd rs1 rs2) s = .refused (.noHandler "FORK")) ∧
  (∀ (rd rs1 rs2 : Byte) (s : State), exec (.join rd rs1 rs2) s = .refused (.noHandler "JOIN")) ∧
  (∀ (rd rs1 rs2 : Byte) (s : State), exec (.signal rd rs1 rs2) s = .refused (.noHandler "SIGNAL")) ∧
  (∀ (rd rs1 rs2 : Byte) (s : State), exec (.await rd rs1 rs2) s = .refused (.noHandler "AWAIT")) ∧
  (∀ (rd rs1 rs2 : Byte) (s : State), exec (.trust rd rs1 rs2) s = .refused (.noHandler "TRUST")) ∧
  (∀ (rd rs1 rs2 : Byte) (s : State), exec (.discov rd rs1 rs2) s = .refused (.noHandler "DISCOV")) ∧
  (∀ (rd rs1 rs2 : Byte) (s : State), exec (.status rd rs1 rs2) s = .refused (.noHandler "STATUS")) ∧
  (∀ (rd rs1 rs2 : Byte) (s : State), exec (.heartbt rd rs1 rs2) s = .refused (.noHandler "HEARTBT"))

/-- For every operand and state each of V_EVID to V_PRAGMA ends refused, by the reason its rule names, and each of SENSE
to CANBUS for want of a device. (46_viewpoint_sensor.md sections 1 and 2) -/
def Obligations.ViewpointAndSensorRefusals : Prop :=
  (∀ (rd rs1 rs2 : Byte) (s : State), exec (.vEvid rd rs1 rs2) s = .refused (.undefinedEffect "V_EVID")) ∧
  (∀ (rd rs1 rs2 : Byte) (s : State), exec (.vEpist rd rs1 rs2) s = .refused (.undefinedEffect "V_EPIST")) ∧
  (∀ (rd rs1 rs2 : Byte) (s : State), exec (.vMir rd rs1 rs2) s = .refused (.undefinedEffect "V_MIR")) ∧
  (∀ (rd rs1 rs2 : Byte) (s : State), exec (.vNeg rd rs1 rs2) s = .refused (.undefinedEffect "V_NEG")) ∧
  (∀ (rd rs1 rs2 : Byte) (s : State), exec (.vTense rd rs1 rs2) s = .refused (.undefinedEffect "V_TENSE")) ∧
  (∀ (rd rs1 rs2 : Byte) (s : State), exec (.vAspec rd rs1 rs2) s = .refused (.undefinedEffect "V_ASPEC")) ∧
  (∀ (rd rs1 rs2 : Byte) (s : State), exec (.vModal rd rs1 rs2) s = .refused (.undefinedEffect "V_MODAL")) ∧
  (∀ (rd rs1 rs2 : Byte) (s : State), exec (.vPolit rd rs1 rs2) s = .refused (.undefinedEffect "V_POLIT")) ∧
  (∀ (rd rs1 rs2 : Byte) (s : State), exec (.vHonor rd rs1 rs2) s = .refused (.undefinedEffect "V_HONOR")) ∧
  (∀ (rd rs1 rs2 : Byte) (s : State), exec (.vTopic rd rs1 rs2) s = .refused (.undefinedEffect "V_TOPIC")) ∧
  (∀ (rd rs1 rs2 : Byte) (s : State), exec (.vFocus rd rs1 rs2) s = .refused (.undefinedEffect "V_FOCUS")) ∧
  (∀ (rd rs1 rs2 : Byte) (s : State), exec (.vCase rd rs1 rs2) s = .refused (.undefinedEffect "V_CASE")) ∧
  (∀ (rd rs1 rs2 : Byte) (s : State), exec (.vAgree rd rs1 rs2) s = .refused (.undefinedEffect "V_AGREE")) ∧
  (∀ (rd rs1 rs2 : Byte) (s : State), exec (.vClass rd rs1 rs2) s = .refused (.undefinedEffect "V_CLASS")) ∧
  (∀ (rd rs1 rs2 : Byte) (s : State), exec (.vInfl rd rs1 rs2) s = .refused (.undefinedEffect "V_INFL")) ∧
  (∀ (rd rs1 rs2 : Byte) (s : State), exec (.vPragma rd rs1 rs2) s = .refused (.undefinedEffect "V_PRAGMA")) ∧
  (∀ (rd rs1 rs2 : Byte) (s : State), exec (.sense rd rs1 rs2) s = .refused (.noDevice "SENSE")) ∧
  (∀ (rd rs1 rs2 : Byte) (s : State), exec (.actuate rd rs1 rs2) s = .refused (.noDevice "ACTUATE")) ∧
  (∀ (rd rs1 rs2 : Byte) (s : State), exec (.sample rd rs1 rs2) s = .refused (.noDevice "SAMPLE")) ∧
  (∀ (rd rs1 rs2 : Byte) (s : State), exec (.energy rd rs1 rs2) s = .refused (.noDevice "ENERGY")) ∧
  (∀ (rd rs1 rs2 : Byte) (s : State), exec (.temp rd rs1 rs2) s = .refused (.noDevice "TEMP")) ∧
  (∀ (rd rs1 rs2 : Byte) (s : State), exec (.gps rd rs1 rs2) s = .refused (.noDevice "GPS")) ∧
  (∀ (rd rs1 rs2 : Byte) (s : State), exec (.accel rd rs1 rs2) s = .refused (.noDevice "ACCEL")) ∧
  (∀ (rd rs1 rs2 : Byte) (s : State), exec (.depth rd rs1 rs2) s = .refused (.noDevice "DEPTH")) ∧
  (∀ (rd rs1 rs2 : Byte) (s : State), exec (.camcap rd rs1 rs2) s = .refused (.noDevice "CAMCAP")) ∧
  (∀ (rd rs1 rs2 : Byte) (s : State), exec (.camdet rd rs1 rs2) s = .refused (.noDevice "CAMDET")) ∧
  (∀ (rd rs1 rs2 : Byte) (s : State), exec (.pwm rd rs1 rs2) s = .refused (.noDevice "PWM")) ∧
  (∀ (rd rs1 rs2 : Byte) (s : State), exec (.gpio rd rs1 rs2) s = .refused (.noDevice "GPIO")) ∧
  (∀ (rd rs1 rs2 : Byte) (s : State), exec (.i2c rd rs1 rs2) s = .refused (.noDevice "I2C")) ∧
  (∀ (rd rs1 rs2 : Byte) (s : State), exec (.spi rd rs1 rs2) s = .refused (.noDevice "SPI")) ∧
  (∀ (rd rs1 rs2 : Byte) (s : State), exec (.uart rd rs1 rs2) s = .refused (.noDevice "UART")) ∧
  (∀ (rd rs1 rs2 : Byte) (s : State), exec (.canbus rd rs1 rs2) s = .refused (.noDevice "CANBUS"))

/-- For every operand and state SHA256 and each of LEN to KEYGEN end refused, by the reason its rule names.
(47_extmath_collection.md sections 1 and 2) -/
def Obligations.CollectionAndCryptoRefusals : Prop :=
  (∀ (rd rs1 rs2 : Byte) (s : State), exec (.sha256 rd rs1 rs2) s = .refused (.handleUndefined "SHA256")) ∧
  (∀ (rd imm8 : Byte) (s : State), exec (.len rd imm8) s = .refused (.collectionUndefined "LEN")) ∧
  (∀ (rd rs1 rs2 : Byte) (s : State), exec (.concat rd rs1 rs2) s = .refused (.collectionUndefined "CONCAT")) ∧
  (∀ (rd rs1 rs2 : Byte) (s : State), exec (.collAt rd rs1 rs2) s = .refused (.collectionUndefined "AT")) ∧
  (∀ (rd rs1 rs2 : Byte) (s : State), exec (.setat rd rs1 rs2) s = .refused (.collectionUndefined "SETAT")) ∧
  (∀ (rd rs1 : Byte) (imm16 : Half) (s : State), exec (.slice rd rs1 imm16) s = .refused (.collectionUndefined "SLICE")) ∧
  (∀ (rd rs1 rs2 : Byte) (s : State), exec (.reduce rd rs1 rs2) s = .refused (.collectionUndefined "REDUCE")) ∧
  (∀ (rd rs1 rs2 : Byte) (s : State), exec (.map rd rs1 rs2) s = .refused (.collectionUndefined "MAP")) ∧
  (∀ (rd rs1 rs2 : Byte) (s : State), exec (.filter rd rs1 rs2) s = .refused (.collectionUndefined "FILTER")) ∧
  (∀ (rd rs1 rs2 : Byte) (s : State), exec (.sort rd rs1 rs2) s = .refused (.collectionUndefined "SORT")) ∧
  (∀ (rd rs1 rs2 : Byte) (s : State), exec (.find rd rs1 rs2) s = .refused (.collectionUndefined "FIND")) ∧
  (∀ (rd rs1 rs2 : Byte) (s : State), exec (.hash rd rs1 rs2) s = .refused (.undefinedEffect "HASH")) ∧
  (∀ (rd rs1 rs2 : Byte) (s : State), exec (.hmac rd rs1 rs2) s = .refused (.undefinedEffect "HMAC")) ∧
  (∀ (rd rs1 rs2 : Byte) (s : State), exec (.verify rd rs1 rs2) s = .refused (.undefinedEffect "VERIFY")) ∧
  (∀ (rd rs1 rs2 : Byte) (s : State), exec (.encrypt rd rs1 rs2) s = .refused (.undefinedEffect "ENCRYPT")) ∧
  (∀ (rd rs1 rs2 : Byte) (s : State), exec (.decrypt rd rs1 rs2) s = .refused (.undefinedEffect "DECRYPT")) ∧
  (∀ (rd rs1 rs2 : Byte) (s : State), exec (.keygen rd rs1 rs2) s = .refused (.undefinedEffect "KEYGEN"))

/-- For every operand (the operand bytes are not validated) and state each of VLOAD to VSELECT and TMATMUL to TQUANT ends
refused, as a name only. (49_vector_tensor.md sections 1 and 2) -/
def Obligations.VectorAndTensorRefusals : Prop :=
  (∀ (rd rs1 rs2 : Byte) (s : State), exec (.vload rd rs1 rs2) s = .refused (.nameOnly "VLOAD")) ∧
  (∀ (rd rs1 rs2 : Byte) (s : State), exec (.vstore rd rs1 rs2) s = .refused (.nameOnly "VSTORE")) ∧
  (∀ (rd rs1 rs2 : Byte) (s : State), exec (.vadd rd rs1 rs2) s = .refused (.nameOnly "VADD")) ∧
  (∀ (rd rs1 rs2 : Byte) (s : State), exec (.vmul rd rs1 rs2) s = .refused (.nameOnly "VMUL")) ∧
  (∀ (rd rs1 rs2 : Byte) (s : State), exec (.vdot rd rs1 rs2) s = .refused (.nameOnly "VDOT")) ∧
  (∀ (rd rs1 rs2 : Byte) (s : State), exec (.vnorm rd rs1 rs2) s = .refused (.nameOnly "VNORM")) ∧
  (∀ (rd rs1 rs2 : Byte) (s : State), exec (.vscale rd rs1 rs2) s = .refused (.nameOnly "VSCALE")) ∧
  (∀ (rd rs1 rs2 : Byte) (s : State), exec (.vmaxp rd rs1 rs2) s = .refused (.nameOnly "VMAXP")) ∧
  (∀ (rd rs1 rs2 : Byte) (s : State), exec (.vminp rd rs1 rs2) s = .refused (.nameOnly "VMINP")) ∧
  (∀ (rd rs1 rs2 : Byte) (s : State), exec (.vreduce rd rs1 rs2) s = .refused (.nameOnly "VREDUCE")) ∧
  (∀ (rd rs1 rs2 : Byte) (s : State), exec (.vgather rd rs1 rs2) s = .refused (.nameOnly "VGATHER")) ∧
  (∀ (rd rs1 rs2 : Byte) (s : State), exec (.vscatter rd rs1 rs2) s = .refused (.nameOnly "VSCATTER")) ∧
  (∀ (rd rs1 rs2 : Byte) (s : State), exec (.vshuf rd rs1 rs2) s = .refused (.nameOnly "VSHUF")) ∧
  (∀ (rd rs1 rs2 : Byte) (s : State), exec (.vmerge rd rs1 rs2) s = .refused (.nameOnly "VMERGE")) ∧
  (∀ (rd rs1 rs2 : Byte) (s : State), exec (.vconf rd rs1 rs2) s = .refused (.nameOnly "VCONF")) ∧
  (∀ (rd rs1 rs2 : Byte) (s : State), exec (.vselect rd rs1 rs2) s = .refused (.nameOnly "VSELECT")) ∧
  (∀ (rd rs1 rs2 : Byte) (s : State), exec (.tmatmul rd rs1 rs2) s = .refused (.nameOnly "TMATMUL")) ∧
  (∀ (rd rs1 rs2 : Byte) (s : State), exec (.tconv rd rs1 rs2) s = .refused (.nameOnly "TCONV")) ∧
  (∀ (rd rs1 rs2 : Byte) (s : State), exec (.tpool rd rs1 rs2) s = .refused (.nameOnly "TPOOL")) ∧
  (∀ (rd rs1 rs2 : Byte) (s : State), exec (.trelu rd rs1 rs2) s = .refused (.nameOnly "TRELU")) ∧
  (∀ (rd rs1 rs2 : Byte) (s : State), exec (.tsigm rd rs1 rs2) s = .refused (.nameOnly "TSIGM")) ∧
  (∀ (rd rs1 rs2 : Byte) (s : State), exec (.tsoft rd rs1 rs2) s = .refused (.nameOnly "TSOFT")) ∧
  (∀ (rd rs1 rs2 : Byte) (s : State), exec (.tloss rd rs1 rs2) s = .refused (.nameOnly "TLOSS")) ∧
  (∀ (rd rs1 rs2 : Byte) (s : State), exec (.tgrad rd rs1 rs2) s = .refused (.nameOnly "TGRAD")) ∧
  (∀ (rd rs1 rs2 : Byte) (s : State), exec (.tupdate rd rs1 rs2) s = .refused (.nameOnly "TUPDATE")) ∧
  (∀ (rd rs1 rs2 : Byte) (s : State), exec (.tadam rd rs1 rs2) s = .refused (.nameOnly "TADAM")) ∧
  (∀ (rd rs1 rs2 : Byte) (s : State), exec (.tembed rd rs1 rs2) s = .refused (.nameOnly "TEMBED")) ∧
  (∀ (rd rs1 rs2 : Byte) (s : State), exec (.tattn rd rs1 rs2) s = .refused (.nameOnly "TATTN")) ∧
  (∀ (rd rs1 rs2 : Byte) (s : State), exec (.tsample rd rs1 rs2) s = .refused (.nameOnly "TSAMPLE")) ∧
  (∀ (rd rs1 rs2 : Byte) (s : State), exec (.ttoken rd rs1 rs2) s = .refused (.nameOnly "TTOKEN")) ∧
  (∀ (rd rs1 rs2 : Byte) (s : State), exec (.tdetok rd rs1 rs2) s = .refused (.nameOnly "TDETOK")) ∧
  (∀ (rd rs1 rs2 : Byte) (s : State), exec (.tquant rd rs1 rs2) s = .refused (.nameOnly "TQUANT"))

/-- For every operand and state DMA_CPY, DMA_SET, MMIO_R, MMIO_W, CAS to GPU_SYNC, TAIL to WATCH and HALT_ERR to SLEEP end
refused, by the reason their rules name. (45_long_jumps_ext_memory.md sections 2 and 3, 40_system_control.md section
3) -/
def Obligations.ExtendedMemoryJumpAndSystemRefusals : Prop :=
  (∀ (rd rs1 : Byte) (imm16 : Half) (s : State), exec (.dmaCpy rd rs1 imm16) s = .refused (.undefinedEffect "DMA")) ∧
  (∀ (rd rs1 : Byte) (imm16 : Half) (s : State), exec (.dmaSet rd rs1 imm16) s = .refused (.undefinedEffect "DMA")) ∧
  (∀ (rd rs1 : Byte) (imm16 : Half) (s : State), exec (.mmioR rd rs1 imm16) s = .refused (.noDevice "MMIO")) ∧
  (∀ (rd rs1 : Byte) (imm16 : Half) (s : State), exec (.mmioW rd rs1 imm16) s = .refused (.noDevice "MMIO")) ∧
  (∀ (rd rs1 : Byte) (imm16 : Half) (s : State), exec (.cas rd rs1 imm16) s = .refused (.undefinedEffect "CAS")) ∧
  (∀ (rd rs1 : Byte) (imm16 : Half) (s : State), exec (.fence rd rs1 imm16) s = .refused (.typeEncoding "FENCE")) ∧
  (∀ (rd rs1 : Byte) (imm16 : Half) (s : State), exec (.malloc rd rs1 imm16) s = .refused (.undefinedEffect "MALLOC")) ∧
  (∀ (rd rs1 : Byte) (imm16 : Half) (s : State), exec (.free rd rs1 imm16) s = .refused (.undefinedEffect "FREE")) ∧
  (∀ (rd rs1 : Byte) (imm16 : Half) (s : State), exec (.mprot rd rs1 imm16) s = .refused (.undefinedEffect "MPROT")) ∧
  (∀ (rd rs1 : Byte) (imm16 : Half) (s : State), exec (.mcache rd rs1 imm16) s = .refused (.opEncoding "MCACHE")) ∧
  (∀ (rd rs1 : Byte) (imm16 : Half) (s : State), exec (.gpuLd rd rs1 imm16) s = .refused (.noDevice "GPU")) ∧
  (∀ (rd rs1 : Byte) (imm16 : Half) (s : State), exec (.gpuSt rd rs1 imm16) s = .refused (.noDevice "GPU")) ∧
  (∀ (rd rs1 : Byte) (imm16 : Half) (s : State), exec (.gpuEx rd rs1 imm16) s = .refused (.noDevice "GPU")) ∧
  (∀ (rd rs1 : Byte) (imm16 : Half) (s : State), exec (.gpuSync rd rs1 imm16) s = .refused (.noDevice "GPU")) ∧
  (∀ (rd : Byte) (imm16 : Half) (s : State), exec (.tail rd imm16) s = .refused (.undefinedEffect "TAIL")) ∧
  (∀ (rd : Byte) (imm16 : Half) (s : State), exec (.switch rd imm16) s = .refused (.undefinedEffect "SWITCH")) ∧
  (∀ (rd : Byte) (imm16 : Half) (s : State), exec (.coyield rd imm16) s = .refused (.undefinedEffect "COYIELD")) ∧
  (∀ (rd : Byte) (imm16 : Half) (s : State), exec (.coresum rd imm16) s = .refused (.undefinedEffect "CORESUM")) ∧
  (∀ (rd : Byte) (imm16 : Half) (s : State), exec (.fault rd imm16) s = .refused (.noTrapMechanism "FAULT")) ∧
  (∀ (rd : Byte) (imm16 : Half) (s : State), exec (.handler rd imm16) s = .refused (.noTrapMechanism "HANDLER")) ∧
  (∀ (rd : Byte) (imm16 : Half) (s : State), exec (.trace rd imm16) s = .refused (.noHostInterface "TRACE")) ∧
  (∀ (rd : Byte) (imm16 : Half) (s : State), exec (.profOn rd imm16) s = .refused (.noHostInterface "PROF")) ∧
  (∀ (rd : Byte) (imm16 : Half) (s : State), exec (.profOff rd imm16) s = .refused (.noHostInterface "PROF")) ∧
  (∀ (rd : Byte) (imm16 : Half) (s : State), exec (.watch rd imm16) s = .refused (.noDebugger "WATCH")) ∧
  (∀ (s : State), exec .haltErr s = .refused (.nameOnly "HALT_ERR")) ∧
  (∀ (s : State), exec .reboot s = .refused (.nameOnly "REBOOT")) ∧
  (∀ (s : State), exec .dump s = .refused (.nameOnly "DUMP")) ∧
  (∀ (s : State), exec .assert s = .refused (.nameOnly "ASSERT")) ∧
  (∀ (s : State), exec .id s = .refused (.nameOnly "ID")) ∧
  (∀ (s : State), exec .ver s = .refused (.nameOnly "VER")) ∧
  (∀ (s : State), exec .clk s = .refused (.nameOnly "CLK")) ∧
  (∀ (s : State), exec .pclk s = .refused (.nameOnly "PCLK")) ∧
  (∀ (s : State), exec .wdog s = .refused (.nameOnly "WDOG")) ∧
  (∀ (s : State), exec .sleep s = .refused (.nameOnly "SLEEP"))

/-- In every state each reserved slot and ILLEGAL answers IllegalOpcode with its opcode byte, BRK answers
Breakpoint(pc), and WFI answers the stuck end, in the form of a fault of its own name (DESIGN CHOICE, log 13: by R603
stuck is neither halted nor faulted, and a model may represent it as an end state of its own). (40_system_control.md
sections 2 and 3, 45_long_jumps_ext_memory.md sections 2 and 3, 60_exceptions.md sections 2 and 3; log 13) -/
def Obligations.ReservedSlotsBrkAndWfiStop : Prop :=
  (∀ (s : State), exec .reservedDF s = .fault (.illegalOpcode 0xDF)) ∧
  (∀ (s : State), exec .reservedED s = .fault (.illegalOpcode 0xED)) ∧
  (∀ (s : State), exec .reservedEE s = .fault (.illegalOpcode 0xEE)) ∧
  (∀ (s : State), exec .reservedEF s = .fault (.illegalOpcode 0xEF)) ∧
  (∀ (s : State), exec .reservedFA s = .fault (.illegalOpcode 0xFA)) ∧
  (∀ (s : State), exec .reservedFB s = .fault (.illegalOpcode 0xFB)) ∧
  (∀ (s : State), exec .reservedFC s = .fault (.illegalOpcode 0xFC)) ∧
  (∀ (s : State), exec .reservedFD s = .fault (.illegalOpcode 0xFD)) ∧
  (∀ (s : State), exec .reservedFE s = .fault (.illegalOpcode 0xFE)) ∧
  (∀ (s : State), exec .illegal s = .fault (.illegalOpcode 0xFF)) ∧
  (∀ (s : State), exec .brk s = .fault (.breakpoint s.pc)) ∧
  (∀ (s : State), exec .wfi s = .fault (.stuck s.pc))

/-- In every state: HALT answers the state with halted set and pc one further; NOP and SYN answer it with pc one
further; YIELD with pc two further. CACHE with imm8 up to 2 answers the state with pc two further. DBG of a 32-bit
register number adds the event (number, value) and advances pc. CLF, whatever FLAG_BIT, clears each flag whose bit
FLAG_BIT(flag) of imm8 is 1, leaves the others and advances pc; by default FLAG_BIT is 0, 1, 2, 3 for Z, S, C, O.
Nothing else changes. (The bit of each flag is the spec's own decision, log 32; the event list is the model's field,
log 34.) (40_system_control.md sections 1 and 2, 41_single_reg_and_imm.md section 2, 10_state.md section 4) -/
def Obligations.HaltNoOperationsDbgAndClf : Prop :=
  (∀ s : State,
    exec .halt s = .next { s with halted := true, pc := s.pc + 1 } ∧
    exec .nop s = .next { s with pc := s.pc + 1 } ∧
    exec .syn s = .next { s with pc := s.pc + 1 } ∧
    ∀ imm8, exec (.yield imm8) s = .next { s with pc := s.pc + 2 }) ∧
  (∀ s : State,
    (∀ imm8 : Byte, imm8.toNat ≤ 2 → exec (.cache imm8) s = .next { s with pc := s.pc + 2 }) ∧
    (∀ imm8 : Byte, imm8.toNat < 48 → imm8.toNat < s.params.nreg.count →
      exec (.dbg imm8) s = .next { s with pc := s.pc + 2, debugOut := s.debugOut ++ [⟨imm8, s.getX imm8⟩] }) ∧
    (∀ imm8 : Byte,
      let bit := s.params.flagBit
      exec (.clf imm8) s = .next { s with
        pc := s.pc + 2
        flags := ⟨s.flags.z && !imm8.getLsbD bit.z, s.flags.s && !imm8.getLsbD bit.s,
          s.flags.c && !imm8.getLsbD bit.c, s.flags.o && !imm8.getLsbD bit.o⟩ })) ∧
  Params.default.flagBit = ⟨0, 1, 2, 3⟩

/-- In every state RESET completes: every 32-bit and 128-bit register is 0, pc is one further, and flags, data memory,
halted, cycles, the seed, the events and the run parameters are unchanged. (Of c and cacc nothing is said: the rule
makes them any.) (R176) -/
def Obligations.ResetClearsTheRegisterFile : Prop :=
  ∀ s : State, ∃ t, exec .reset s = .next t ∧ (∀ r : Byte, t.getX r = 0) ∧ (∀ k (h : k < 16), t.v[k] = 0) ∧
    t.pc = s.pc + 1 ∧ t.flags = s.flags ∧ SameMemory s t ∧ SameRun s t

/-- With SP at 65536 RET halts and advances pc by one. With the four bytes at SP inside memory it completes: pc is the
word there read unsigned, SP is four higher modulo 2^32, and no other register, flag, memory byte or confidence
changes. Otherwise it raises MemoryFault(SP). (R172) -/
def Obligations.RetHaltsOrPops : Prop :=
  ∀ s : State,
    (u32 s.sp = 65536 → exec .ret s = .next { s with halted := true, pc := s.pc + 1 }) ∧
    (u32 s.sp + 4 ≤ 65536 →
      ∃ t, exec .ret s = .next t ∧ t.pc = u32 (s.mem.word (u32 s.sp)) ∧ t.sp = s.sp + 4 ∧ SameRegs [spReg] s t ∧
        t.flags = s.flags ∧ SameMemory s t ∧ SameConfidence s t ∧ SameRun s t) ∧
    (65532 < u32 s.sp → u32 s.sp ≠ 65536 → exec .ret s = .fault (.memoryFault (u32 s.sp)))

/-- For a 32-bit register rd in every state each completes: rd gets the wrapped sum, difference, complement or negation
(R0 stays 0), Z and S come from the result, pc is two further, and nothing else changes but C and O, which the rules
leave any. (R210, R211, R212, R213) -/
def Obligations.IncDecNotNeg : Prop :=
  ∀ (s : State) (rd : Byte), Regs32 s [rd] →
    CompletesZS (.inc rd) s rd (wrap32 (u32 (s.getX rd) + 1)) 2 ∧
    CompletesZS (.dec rd) s rd (wrap32 ((u32 (s.getX rd) : Int) - 1)) 2 ∧
    CompletesZS (.not rd) s rd (s.getX rd ^^^ 0xFFFFFFFF) 2 ∧
    CompletesZS (.neg rd) s rd (wrap32 (0 - s32 (s.getX rd))) 2

/-- For a 32-bit register rd: with the four bytes below SP inside memory (in canonical form), PUSH stores the value rd
had, SP is four lower, pc is two further and nothing else changes; otherwise it raises MemoryFault at SP - 4 modulo
2^32. For a 32-bit register rd other than R11: with the four bytes at SP inside memory POP completes: rd gets the word
(R0 discards it), SP is four higher modulo 2^32, pc is two further, nothing else changes; otherwise it raises
MemoryFault(SP). POP R11 is refused. (R214, R215) -/
def Obligations.PushAndPop : Prop :=
  (∀ (s : State) (rd : Byte), Regs32 s [rd] →
    (s.mem.wf = true → InMemory (u32 (s.sp - 4)) 4 →
      s.pushAddr = s.sp - 4 ∧ CompletesPush (.push rd) s (s.getX rd) (s.pc + 2)) ∧
    (¬ InMemory (u32 (s.sp - 4)) 4 → exec (.push rd) s = .fault (.memoryFault (u32 (s.sp - 4))))) ∧
  (∀ (s : State) (rd : Byte), Regs32 s [rd] →
    (rd ≠ 11 → u32 s.sp + 4 ≤ 65536 →
      ∃ t, exec (.pop rd) s = .next t ∧ t.pc = s.pc + 2 ∧
        t.getX rd = (if rd = 0 then 0 else s.mem.word (u32 s.sp)) ∧ t.sp = s.sp + 4 ∧ SameRegs [rd, spReg] s t ∧
        t.flags = s.flags ∧ SameMemory s t ∧ SameConfidence s t ∧ SameRun s t) ∧
    (rd ≠ 11 → 65536 < u32 s.sp + 4 → exec (.pop rd) s = .fault (.memoryFault (u32 s.sp))) ∧
    (rd = 11 → exec (.pop rd) s = .refused .popIntoSP))

/-- For every register number in range, those of vector registers too: CONF_LD copies the cell to cacc, CONF_ST copies
cacc to the cell; pc is two further and no register, flag, memory byte or other cell changes. (R216, R217) -/
def Obligations.ConfLdAndConfSt : Prop :=
  ∀ (s : State) (rd : Byte), NamesCell s rd →
    exec (.confLd rd) s = .next { s with pc := s.pc + 2, cacc := s.getC rd } ∧
    ∃ t, exec (.confSt rd) s = .next t ∧ t.getC rd = s.cacc ∧ SameCells [rd] s t ∧ t.cacc = s.cacc ∧
      t.pc = s.pc + 2 ∧ t.flags = s.flags ∧ SameRegs [] s t ∧ SameMemory s t ∧ SameRun s t

/-- For 32-bit registers in every state: MOVI gives rd the sign-extended imm8, MOVI16 the zero-extended imm16, MOV the
pattern of rs1 (the ignored byte may be anything); R0 stays 0; pc advances by 3, 4, 4; flags and everything else are
unchanged. For 32-bit registers in every state SWP completes: rd gets what rs1 held and rs1 what rd held, a write to
R0 being dropped; the same register twice changes nothing; every other register, flags, memory and confidence are
unchanged and pc is four further. (R230, R330, R302, R303) -/
def Obligations.MovesImmediatesAndSwap : Prop :=
  (∀ s : State,
    (∀ rd imm8, Regs32 s [rd] → CompletesX (.movi rd imm8) s rd (wrap32 imm8.toInt) 3) ∧
    (∀ rd imm16, Regs32 s [rd] → CompletesX (.movi16 rd imm16) s rd (wrap32 imm16.toNat) 4) ∧
    (∀ rd rs1 ign, Regs32 s [rd, rs1] → CompletesX (.mov rd rs1 ign) s rd (s.getX rs1) 4)) ∧
  (∀ (s : State) (rd rs1 ign : Byte), Regs32 s [rd, rs1] →
    ∃ t, exec (.swp rd rs1 ign) s = .next t ∧ t.pc = s.pc + 4 ∧
      t.getX rd = (if rd = 0 then 0 else s.getX rs1) ∧ t.getX rs1 = (if rs1 = 0 then 0 else s.getX rd) ∧
      SameRegs [rd, rs1] s t ∧ t.flags = s.flags ∧ SameMemory s t ∧ SameConfidence s t ∧ SameRun s t)

/-- For a 32-bit register rd in every state each completes with the wrapped result: ADDI and SUBI with the sign-extended
imm8, ANDI, ORI, XORI with the zero-extended imm8, ADDI16 and SUBI16 with the zero-extended imm16; nothing else
changes but pc and the flags, which the rules leave any. For a 32-bit register rd: with imm8 up to 63, SHLI gives the
low 32 bits of the value times 2^imm8 and SHRI the floor of the signed value over 2^imm8; nothing else changes but pc
and the flags, left any. With imm8 of 64 or more both are refused. (R231, R232, R233, R234, R235, R331, R332, R236,
R237) -/
def Obligations.ImmediateArithmeticAndShifts : Prop :=
  (∀ (s : State) (rd imm8 : Byte) (imm16 : Half), Regs32 s [rd] →
    CompletesAny (.addi rd imm8) s rd (wrap32 (s32 (s.getX rd) + imm8.toInt)) 3 ∧
    CompletesAny (.subi rd imm8) s rd (wrap32 (s32 (s.getX rd) - imm8.toInt)) 3 ∧
    CompletesAny (.andi rd imm8) s rd (s.getX rd &&& BitVec.ofNat 32 imm8.toNat) 3 ∧
    CompletesAny (.ori rd imm8) s rd (s.getX rd ||| BitVec.ofNat 32 imm8.toNat) 3 ∧
    CompletesAny (.xori rd imm8) s rd (s.getX rd ^^^ BitVec.ofNat 32 imm8.toNat) 3 ∧
    CompletesAny (.addi16 rd imm16) s rd (wrap32 ((u32 (s.getX rd) : Int) + imm16.toNat)) 4 ∧
    CompletesAny (.subi16 rd imm16) s rd (wrap32 ((u32 (s.getX rd) : Int) - imm16.toNat)) 4) ∧
  (∀ (s : State) (rd imm8 : Byte), Regs32 s [rd] →
    (imm8.toNat ≤ 63 →
      CompletesAny (.shli rd imm8) s rd (wrap32 (u32 (s.getX rd) * 2 ^ imm8.toNat)) 3 ∧
      CompletesAny (.shri rd imm8) s rd (wrap32 (s32 (s.getX rd) / 2 ^ imm8.toNat)) 3) ∧
    (63 < imm8.toNat →
      exec (.shli rd imm8) s = .refused .shiftCount ∧ exec (.shri rd imm8) s = .refused .shiftCount))

/-- For 32-bit registers (rd may be a source) in every state ADD, SUB, MUL, AND, OR, XOR, SHL, SHR, MIN, MAX complete: rd
gets the result of the rule on the values before (R0 stays 0), shift counts are the low 6 bits, MIN and MAX are
signed; Z and S come from the result, pc is four further, nothing else changes but C and O, left any. (R251, R252,
R253, R256, R257, R258, R259, R260, R261, R262) -/
def Obligations.IntegerArithmetic : Prop :=
  ∀ (s : State) (rd rs1 rs2 : Byte), Regs32 s [rd, rs1, rs2] →
    let a := s.getX rs1
    let b := s.getX rs2
    let n := u32 b % 64
    CompletesZS (.add rd rs1 rs2) s rd (wrap32 (u32 a + u32 b)) 4 ∧
    CompletesZS (.sub rd rs1 rs2) s rd (wrap32 ((u32 a : Int) - u32 b)) 4 ∧
    CompletesZS (.mul rd rs1 rs2) s rd (wrap32 (s32 a * s32 b)) 4 ∧
    CompletesZS (.and rd rs1 rs2) s rd (a &&& b) 4 ∧
    CompletesZS (.or rd rs1 rs2) s rd (a ||| b) 4 ∧
    CompletesZS (.xor rd rs1 rs2) s rd (a ^^^ b) 4 ∧
    CompletesZS (.shl rd rs1 rs2) s rd (wrap32 (u32 a * 2 ^ n)) 4 ∧
    CompletesZS (.shr rd rs1 rs2) s rd (wrap32 (s32 a / 2 ^ n)) 4 ∧
    CompletesZS (.min rd rs1 rs2) s rd (if s32 a ≤ s32 b then a else b) 4 ∧
    CompletesZS (.max rd rs1 rs2) s rd (if s32 a ≥ s32 b then a else b) 4

/-- For 32-bit registers in every state each completes: rd gets 1 where the equality, the signed order or the inequality
holds of the values before and 0 where not; nothing else changes but pc and the flags, left any. (R263, R264, R265,
R266) -/
def Obligations.IntegerComparisons : Prop :=
  ∀ (s : State) (rd rs1 rs2 : Byte), Regs32 s [rd, rs1, rs2] →
    CompletesAny (.cmpEq rd rs1 rs2) s rd (if s.getX rs1 = s.getX rs2 then 1 else 0) 4 ∧
    CompletesAny (.cmpLt rd rs1 rs2) s rd (if s32 (s.getX rs1) < s32 (s.getX rs2) then 1 else 0) 4 ∧
    CompletesAny (.cmpGt rd rs1 rs2) s rd (if s32 (s.getX rs1) > s32 (s.getX rs2) then 1 else 0) 4 ∧
    CompletesAny (.cmpNe rd rs1 rs2) s rd (if s.getX rs1 ≠ s.getX rs2 then 1 else 0) 4

/-- For 32-bit registers: with a divisor other than 0 there are q and m with a = q * b + m, |m| below |b|, m of the sign
of a (or 0) under trunc and of the sign of b (or 0) under floor, and DIV gives q, MOD gives m, wrapped, with nothing
else changed but pc and the flags, left any. With divisor 0 both raise DivideByZero(pc). (R254, R255) -/
def Obligations.DivisionIdentity : Prop :=
  ∀ (s : State) (rd rs1 rs2 : Byte), Regs32 s [rd, rs1, rs2] →
    let a := s32 (s.getX rs1)
    let b := s32 (s.getX rs2)
    (b ≠ 0 → ∃ q m : Int, a = q * b + m ∧ |m| < |b| ∧
      (s.params.divMode = .trunc → 0 ≤ m * a) ∧ (s.params.divMode = .floor → 0 ≤ m * b) ∧
      CompletesAny (.div rd rs1 rs2) s rd (wrap32 q) 4 ∧ CompletesAny (.mod rd rs1 rs2) s rd (wrap32 m) 4) ∧
    (b = 0 → exec (.div rd rs1 rs2) s = .fault (.divideByZero s.pc) ∧
      exec (.mod rd rs1 rs2) s = .fault (.divideByZero s.pc))

/-- For 32-bit registers in every state each of FADD, FSUB, FMUL, FMIN, FMAX, ITOF completes with the result FNUM
gives on the patterns before; nothing else changes but pc and the flags, left any. FDIV does so unless the divisor is
+0.0 or -0.0, where it raises DivideByZero(pc). FMOD, FSIN, FCOS complete with the result FNUM gives, Z telling
whether the pattern is 0 unless it is that of -0.0, where Z is any; S, C, O and all else unchanged. FSQRT does the
same unless its operand is a negative non-zero number (isNeg), where it raises DomainError(pc). isNeg holds of exactly
the binary32 patterns with bit 31 set that are no NaN (exponent 255, fraction not 0) and no zero (bits 30 to 0 all 0).
(43_float_memory_control.md section 1, 47_extmath_collection.md section 1) -/
def Obligations.FloatInstructionsComplete : Prop :=
  (∀ (s : State) (rd rs1 rs2 : Byte), Regs32 s [rd, rs1, rs2] →
    let a := s.getX rs1
    let b := s.getX rs2
    CompletesAny (.fadd rd rs1 rs2) s rd (Fnum.add a b) 4 ∧ CompletesAny (.fsub rd rs1 rs2) s rd (Fnum.sub a b) 4 ∧
    CompletesAny (.fmul rd rs1 rs2) s rd (Fnum.mul a b) 4 ∧ CompletesAny (.fmin rd rs1 rs2) s rd (Fnum.min a b) 4 ∧
    CompletesAny (.fmax rd rs1 rs2) s rd (Fnum.max a b) 4 ∧
    (∀ ign, CompletesAny (.itof rd rs1 ign) s rd (Fnum.ofInt a) 4) ∧
    (b ≠ 0x00000000 → b ≠ 0x80000000 → CompletesAny (.fdiv rd rs1 rs2) s rd (Fnum.div a b) 4) ∧
    (b = 0x00000000 ∨ b = 0x80000000 → exec (.fdiv rd rs1 rs2) s = .fault (.divideByZero s.pc))) ∧
  (∀ (s : State) (rd rs1 rs2 : Byte), Regs32 s [rd, rs1, rs2] →
    CompletesZFloat (.fmod rd rs1 rs2) s rd (Fnum.fmod (s.getX rs1) (s.getX rs2)) 4 ∧
    (∀ ign, CompletesZFloat (.fsin rd rs1 ign) s rd (Fnum.sin (s.getX rs1)) 4) ∧
    (∀ ign, CompletesZFloat (.fcos rd rs1 ign) s rd (Fnum.cos (s.getX rs1)) 4) ∧
    (∀ ign, Fnum.isNeg (s.getX rs1) = false →
      CompletesZFloat (.fsqrt rd rs1 ign) s rd (Fnum.sqrt (s.getX rs1)) 4) ∧
    (∀ ign, Fnum.isNeg (s.getX rs1) = true → exec (.fsqrt rd rs1 ign) s = .fault (.domainError s.pc))) ∧
  (∀ p : Word, Fnum.isNeg p = true ↔
    2 ^ 31 ≤ p.toNat ∧ ¬ (p.toNat / 2 ^ 23 % 2 ^ 8 = 255 ∧ p.toNat % 2 ^ 23 ≠ 0) ∧ p.toNat % 2 ^ 31 ≠ 0)

/-- Property (a) of FNUM: for finite a, b, and finite r of value other than 0: if the sum, difference, product or quotient
(by a divisor not 0) of the values of a and b is the value of r, then add, sub, mul, div give the pattern r; likewise
sqrt when r is not negative and its square is the value of a, and ofInt when the integer is the value of r.
(43_float_memory_control.md section 1) -/
def Obligations.FloatExactResults : Prop :=
  ∀ a b r : Word, Fnum.isFinite a = true → Fnum.isFinite b = true → Fnum.isFinite r = true → realOf r ≠ 0 →
    (realOf a + realOf b = realOf r → Fnum.add a b = r) ∧
    (realOf a - realOf b = realOf r → Fnum.sub a b = r) ∧
    (realOf a * realOf b = realOf r → Fnum.mul a b = r) ∧
    (realOf b ≠ 0 → realOf a / realOf b = realOf r → Fnum.div a b = r) ∧
    (0 < realOf r → realOf r * realOf r = realOf a → Fnum.sqrt a = r) ∧
    (∀ k : Word, (s32 k : Rat) = realOf r → Fnum.ofInt k = r)

/-- The value of a finite pattern is its sign times fraction * 2^-149 when the exponent is 0 and (1 + fraction/2^23) *
2^(exponent-127) otherwise. min and max of finite operands of different value return the pattern of the smaller and
the larger (property (d)). fmod of a finite a and a b that is neither NaN nor zero has the sign bit of a or is a zero
(property (c)). (43_float_memory_control.md section 1) -/
def Obligations.FloatReadingMinMaxFmod : Prop :=
  (∀ p : Word, Fnum.isFinite p = true →
    realOf p = (if p.msb then -1 else 1) *
      (if Fnum.exponent p = 0 then (Fnum.fraction p : Rat) * 2 ^ (-149 : Int)
       else (1 + (Fnum.fraction p : Rat) / 2 ^ 23) * 2 ^ ((Fnum.exponent p : Int) - 127))) ∧
  (∀ a b : Word, Fnum.isFinite a = true → Fnum.isFinite b = true → realOf a < realOf b →
    Fnum.min a b = a ∧ Fnum.min b a = a ∧ Fnum.max a b = b ∧ Fnum.max b a = b) ∧
  (∀ a b : Word, Fnum.isFinite a = true → Fnum.isNaN b = false → Fnum.isZero b = false →
    (Fnum.fmod a b).msb = a.msb ∨ Fnum.isZero (Fnum.fmod a b) = true)

/-- For 32-bit registers (the ignored byte may be anything): where rs1 holds a finite value that is an integer in s32,
FTOI gives rd that integer; where it holds a finite value that is no integer, FTOI completes with some value (the
model's choice, log 9: the spec leaves toInt of such a value, Invalid included, to FNUM); where it holds a NaN, an
infinity or an integral value outside s32 it is refused. Where it completes, nothing else changes but pc and the
flags, left any. (43_float_memory_control.md section 1, R291 and R298; log 9) -/
def Obligations.FtoiConverts : Prop :=
  ∀ (s : State) (rd rs1 ign : Byte), Regs32 s [rd, rs1] →
    let p := s.getX rs1
    (Fnum.isFinite p = true → ∀ k : Int, realOf p = k → -2 ^ 31 ≤ k → k ≤ 2 ^ 31 - 1 →
      CompletesAny (.ftoi rd rs1 ign) s rd (wrap32 k) 4) ∧
    (Fnum.isFinite p = true → (∀ k : Int, realOf p ≠ k) → ∃ r, CompletesAny (.ftoi rd rs1 ign) s rd r 4) ∧
    (Fnum.isFinite p = false → exec (.ftoi rd rs1 ign) s = .refused .ftoiRange) ∧
    (Fnum.isFinite p = true → realOf p < -2 ^ 31 ∨ 2 ^ 31 - 1 < realOf p →
      exec (.ftoi rd rs1 ign) s = .refused .ftoiRange)

/-- For 32-bit registers: with the four bytes at the sum of the signed readings (base and index, or base and sign-extended
displacement) inside memory, rd gets the little-endian word there, pc advances, flags and all else are unchanged;
otherwise the instruction raises MemoryFault with that address. (R300, R340) -/
def Obligations.LoadsReadTheAddressedWord : Prop :=
  ∀ (s : State) (rd rs1 rs2 : Byte) (imm16 : Half), Regs32 s [rd, rs1, rs2] →
    let a := s32 (s.getX rs1) + s32 (s.getX rs2)
    let b := s32 (s.getX rs1) + imm16.toInt
    (InMemory a 4 → CompletesX (.load rd rs1 rs2) s rd (s.mem.word a.toNat) 4) ∧
    (¬ InMemory a 4 → exec (.load rd rs1 rs2) s = .fault (.memoryFault a)) ∧
    (InMemory b 4 → CompletesX (.loadoff rd rs1 imm16) s rd (s.mem.word b.toNat) 5) ∧
    (¬ InMemory b 4 → exec (.loadoff rd rs1 imm16) s = .fault (.memoryFault b))

/-- For 32-bit registers and memory in canonical form: with the four bytes at the address inside memory, they become the
value of rd, the least significant first; every byte outside them, every register, flag and confidence is unchanged
and pc advances. Otherwise the instruction raises MemoryFault with that address. (R301, R341) -/
def Obligations.StoresWriteTheAddressedWord : Prop :=
  ∀ (s : State) (rd rs1 rs2 : Byte) (imm16 : Half), Regs32 s [rd, rs1, rs2] → s.mem.wf = true →
    s.indexedAddr rs1 rs2 = s32 (s.getX rs1) + s32 (s.getX rs2) ∧
    s.offsetAddr rs1 imm16.toInt = s32 (s.getX rs1) + imm16.toInt ∧
    (InMemory (s.indexedAddr rs1 rs2) 4 →
      CompletesStore (.store rd rs1 rs2) s (s.indexedAddr rs1 rs2) (s.getX rd) 4) ∧
    (¬ InMemory (s.indexedAddr rs1 rs2) 4 →
      exec (.store rd rs1 rs2) s = .fault (.memoryFault (s.indexedAddr rs1 rs2))) ∧
    (InMemory (s.offsetAddr rs1 imm16.toInt) 4 →
      CompletesStore (.storeoff rd rs1 imm16) s (s.offsetAddr rs1 imm16.toInt) (s.getX rd) 5) ∧
    (¬ InMemory (s.offsetAddr rs1 imm16.toInt) 4 →
      exec (.storeoff rd rs1 imm16) s = .fault (.memoryFault (s.offsetAddr rs1 imm16.toInt)))

/-- For 32-bit registers, memory in canonical form: with imm16 up to 0x7FFF and the pointer's four bytes inside memory,
the address is the signed pointer plus imm16; with its four bytes inside memory LOADI loads rd and STOREI stores rd
there, nothing else changing; otherwise MemoryFault, of the pointer's address first. With imm16 of 0x8000 or more both
are refused. For 32-bit registers, memory in canonical form, imm16 up to 0x7FFF and the four bytes at the base plus
imm16 inside memory: the bytes become the value rd had, rd gets the word they held (R0 drops it), pc is five further
and nothing else changes. Outside memory it raises MemoryFault; with imm16 of 0x8000 or more it is refused. (R342,
R343, R394) -/
def Obligations.IndirectAccessesAndAtomic : Prop :=
  (∀ (s : State) (rd rs1 : Byte) (imm16 : Half), Regs32 s [rd, rs1] → s.mem.wf = true →
    let p := s32 (s.getX rs1)
    let a := s32 (s.mem.word p.toNat) + imm16.toNat
    (imm16.toNat < 0x8000 → InMemory p 4 → InMemory a 4 →
      CompletesX (.loadi rd rs1 imm16) s rd (s.mem.word a.toNat) 5 ∧
      CompletesStore (.storei rd rs1 imm16) s a (s.getX rd) 5) ∧
    (imm16.toNat < 0x8000 → InMemory p 4 → ¬ InMemory a 4 →
      exec (.loadi rd rs1 imm16) s = .fault (.memoryFault a) ∧
      exec (.storei rd rs1 imm16) s = .fault (.memoryFault a)) ∧
    (imm16.toNat < 0x8000 → ¬ InMemory p 4 →
      exec (.loadi rd rs1 imm16) s = .fault (.memoryFault p) ∧
      exec (.storei rd rs1 imm16) s = .fault (.memoryFault p)) ∧
    (0x8000 ≤ imm16.toNat →
      exec (.loadi rd rs1 imm16) s = .refused .imm16Signedness ∧
      exec (.storei rd rs1 imm16) s = .refused .imm16Signedness)) ∧
  (∀ (s : State) (rd rs1 : Byte) (imm16 : Half), Regs32 s [rd, rs1] → s.mem.wf = true →
    let a := s.offsetAddr rs1 imm16.toNat
    a = s32 (s.getX rs1) + imm16.toNat ∧
    (imm16.toNat < 0x8000 → InMemory a 4 →
      ∃ t, exec (.atomic rd rs1 imm16) s = .next t ∧ t.pc = s.pc + 5 ∧ Stored t a (s.getX rd) ∧
        SameMemoryOutside a 4 s t ∧ t.getX rd = (if rd = 0 then 0 else s.mem.word a.toNat) ∧ SameRegs [rd] s t ∧
        t.flags = s.flags ∧ SameConfidence s t ∧ SameRun s t) ∧
    (imm16.toNat < 0x8000 → ¬ InMemory a 4 → exec (.atomic rd rs1 imm16) s = .fault (.memoryFault a)) ∧
    (0x8000 ≤ imm16.toNat → exec (.atomic rd rs1 imm16) s = .refused .imm16Signedness))

/-- For 32-bit registers, memory in canonical form, d and a the signed addresses and n = imm16: with n = 0 only pc
changes; with both ranges inside memory and d not inside the source above its start, byte k of the destination becomes
what byte k of the source held BEFORE (k below n), every byte outside the destination, every register, flag and
confidence is unchanged; a destination outside memory faults first, then a source outside; an upward overlap inside
memory is refused. (R346) -/
def Obligations.CopyMovesTheSourceBytes : Prop :=
  ∀ (s : State) (rd rs1 : Byte) (imm16 : Half), Regs32 s [rd, rs1] → s.mem.wf = true →
    let d := s.regAddr rd
    let a := s.regAddr rs1
    let n := imm16.toNat
    d = s32 (s.getX rd) ∧ a = s32 (s.getX rs1) ∧
    (n = 0 → exec (.copy rd rs1 imm16) s = .next { s with pc := s.pc + 5 }) ∧
    (0 < n → ¬ InMemory d n → exec (.copy rd rs1 imm16) s = .fault (.memoryFault d)) ∧
    (0 < n → InMemory d n → ¬ InMemory a n → exec (.copy rd rs1 imm16) s = .fault (.memoryFault a)) ∧
    (0 < n → InMemory d n → InMemory a n → a < d → d < a + n →
      exec (.copy rd rs1 imm16) s = .refused .copyOverlap) ∧
    (0 < n → InMemory d n → InMemory a n → ¬ (a < d ∧ d < a + n) →
      ∃ t, exec (.copy rd rs1 imm16) s = .next t ∧ t.pc = s.pc + 5 ∧
        (∀ k < n, t.mem.get (d.toNat + k) = s.mem.get (a.toNat + k)) ∧ SameMemoryOutside d n s t ∧
        SameRegs [] s t ∧ t.flags = s.flags ∧ SameConfidence s t ∧ SameRun s t)

/-- For 32-bit registers, memory in canonical form, d the signed address and n = imm16: a value above 255 is refused
whatever n; with n = 0 only pc changes; with the range inside memory every byte of it becomes the value and every byte
outside, every register, flag and confidence is unchanged; otherwise MemoryFault(d). (R347) -/
def Obligations.FillWritesEveryByte : Prop :=
  ∀ (s : State) (rd rs1 : Byte) (imm16 : Half), Regs32 s [rd, rs1] → s.mem.wf = true →
    let d := s.regAddr rd
    let v := u32 (s.getX rs1)
    let n := imm16.toNat
    d = s32 (s.getX rd) ∧
    (255 < v → exec (.fill rd rs1 imm16) s = .refused .fillValue) ∧
    (v ≤ 255 → n = 0 → exec (.fill rd rs1 imm16) s = .next { s with pc := s.pc + 5 }) ∧
    (v ≤ 255 → 0 < n → ¬ InMemory d n → exec (.fill rd rs1 imm16) s = .fault (.memoryFault d)) ∧
    (v ≤ 255 → 0 < n → InMemory d n →
      ∃ t, exec (.fill rd rs1 imm16) s = .next t ∧ t.pc = s.pc + 5 ∧
        (∀ k < n, (t.mem.get (d.toNat + k)).toNat = v) ∧ SameMemoryOutside d n s t ∧
        SameRegs [] s t ∧ t.flags = s.flags ∧ SameConfidence s t ∧ SameRun s t)

/-- In a canonical memory, a store inside it followed by a load of the same address gives the value stored. A word read is
the sum of its bytes times 2^(8k). Two canonical memories that read the same at every address are the same data (the
canonical form is the model's own, log 3). (20_memory.md sections 1 and 5) -/
def Obligations.MemoryReadsWhatWasWritten : Prop :=
  (∀ (m m2 : Memory) (a : Int) (v : Word), m.wf = true → m.store32 a v = some m2 → m2.load32 a = some v) ∧
  (∀ (m : Memory) (a : Nat), u32 (m.word a) =
    (m.get a).toNat + (m.get (a + 1)).toNat * 2 ^ 8 + (m.get (a + 2)).toNat * 2 ^ 16 +
      (m.get (a + 3)).toNat * 2 ^ 24) ∧
  (∀ m m2 : Memory, m.wf = true → m2.wf = true → (∀ a, m.get a = m2.get a) → m = m2)

/-- For 32-bit registers in every state each completes: where rd is zero, not zero, negative, positive (signed), pc
becomes pc + 4 plus the signed content of rs1, and pc + 4 otherwise; nothing else changes, the flags included. (R304,
R305, R306, R307) -/
def Obligations.ConditionalBranches : Prop :=
  ∀ (s : State) (rd rs1 ign : Byte), Regs32 s [rd, rs1] →
    let v := s.getX rd
    let target := s.pc + 4 + s32 (s.getX rs1)
    exec (.jz rd rs1 ign) s = .next { s with pc := if v = 0 then target else s.pc + 4 } ∧
    exec (.jnz rd rs1 ign) s = .next { s with pc := if v ≠ 0 then target else s.pc + 4 } ∧
    exec (.jlt rd rs1 ign) s = .next { s with pc := if s32 v < 0 then target else s.pc + 4 } ∧
    exec (.jgt rd rs1 ign) s = .next { s with pc := if 0 < s32 v then target else s.pc + 4 }

/-- In every state JMP and JMPL complete with pc at pc + 4 plus the signed imm16 (the ignored byte may be anything) and
nothing else changed. For a 32-bit link register JAL and JALL do the same and give rd the number pc + 4 (R0 drops it);
the same frame, flags unchanged. (R333, R334, R370, R371) -/
def Obligations.JumpsAndLinks : Prop :=
  ∀ (s : State) (imm16 : Half),
    (∀ ign, exec (.jmp ign imm16) s = .next { s with pc := s.pc + 4 + imm16.toInt } ∧
      exec (.jmpl ign imm16) s = .next { s with pc := s.pc + 4 + imm16.toInt }) ∧
    ∀ rd, Regs32 s [rd] →
      (∃ t, exec (.jal rd imm16) s = .next t ∧ t.pc = s.pc + 4 + imm16.toInt ∧
        WritesReg s t rd (wrap32 (s.pc + 4)) ∧ t.flags = s.flags) ∧
      (∃ t, exec (.jall rd imm16) s = .next t ∧ t.pc = s.pc + 4 + imm16.toInt ∧
        WritesReg s t rd (wrap32 (s.pc + 4)) ∧ t.flags = s.flags)

/-- For a 32-bit register rd and memory in canonical form: with the four bytes below SP inside memory both complete: the
number pc + 4 is stored there, SP is four lower, pc is the signed value rd had plus the signed imm16, and nothing else
changes. Otherwise both raise MemoryFault at SP - 4 modulo 2^32. (R335, R372) -/
def Obligations.CallsPushTheReturnAddress : Prop :=
  ∀ (s : State) (rd : Byte) (imm16 : Half), Regs32 s [rd] → s.mem.wf = true →
    let target := s32 (s.getX rd) + imm16.toInt
    s.pushAddr = s.sp - 4 ∧
    (InMemory (u32 (s.sp - 4)) 4 →
      CompletesPush (.call rd imm16) s (wrap32 (s.pc + 4)) target ∧
      CompletesPush (.calll rd imm16) s (wrap32 (s.pc + 4)) target) ∧
    (¬ InMemory (u32 (s.sp - 4)) 4 →
      exec (.call rd imm16) s = .fault (.memoryFault (u32 (s.sp - 4))) ∧
      exec (.calll rd imm16) s = .fault (.memoryFault (u32 (s.sp - 4))))

/-- For a 32-bit register rd and imm16 up to 0x7FFF: LOOP gives rd its value less 1, wrapped (R0 stays 0), and pc becomes
pc + 4 - imm16 if that result is positive (signed), pc + 4 otherwise, nothing else changing but the flags, left any;
SELECT completes with pc at pc + 4 plus imm16 times the signed value of rd and nothing else changed. From 0x8000 on
both are refused. (R336, R337) -/
def Obligations.LoopAndSelect : Prop :=
  ∀ (s : State) (rd : Byte) (imm16 : Half), Regs32 s [rd] →
    let r := wrap32 ((u32 (s.getX rd) : Int) - 1)
    (imm16.toNat < 0x8000 →
      (∃ t, exec (.loop rd imm16) s = .next t ∧ WritesReg s t rd r ∧
        t.pc = (if 0 < s32 r then s.pc + 4 - imm16.toNat else s.pc + 4)) ∧
      exec (.select rd imm16) s = .next { s with pc := s.pc + 4 + imm16.toNat * s32 (s.getX rd) }) ∧
    (0x8000 ≤ imm16.toNat →
      exec (.loop rd imm16) s = .refused .imm16Signedness ∧ exec (.select rd imm16) s = .refused .imm16Signedness)

/-- For 32-bit registers in every state each of the eight completes (the divisions with a divisor other than zero): rd
gets the result of its base instruction, c[rd] the min, product or division confidence of c[rs1] and c[rs2] before,
c[0] being an ordinary cell; C_ADD, C_SUB, C_MUL set Z and S from the result, the others leave the flags any; nothing
else changes but pc. C_DIV and C_FDIV by zero raise DivideByZero(pc). (48_confidence_a2a.md section 1) -/
def Obligations.ConfidenceArithmetic : Prop :=
  ∀ (s : State) (rd rs1 rs2 : Byte), Regs32 s [rd, rs1, rs2] →
    let a := s.getX rs1
    let b := s.getX rs2
    let low := Conf.min (s.getC rs1) (s.getC rs2)
    let joint := Conf.mul s.params.conf (s.getC rs1) (s.getC rs2)
    let loss := Conf.divloss s.params.conf (s.getC rs1) (s.getC rs2)
    CompletesConfZS (.cAdd rd rs1 rs2) s rd (wrap32 (u32 a + u32 b)) low ∧
    CompletesConfZS (.cSub rd rs1 rs2) s rd (wrap32 ((u32 a : Int) - u32 b)) low ∧
    CompletesConfZS (.cMul rd rs1 rs2) s rd (wrap32 (s32 a * s32 b)) joint ∧
    CompletesConfAny (.cFadd rd rs1 rs2) s rd (Fnum.add a b) low ∧
    CompletesConfAny (.cFsub rd rs1 rs2) s rd (Fnum.sub a b) low ∧
    CompletesConfAny (.cFmul rd rs1 rs2) s rd (Fnum.mul a b) joint ∧
    (s32 b ≠ 0 →
      CompletesConfAny (.cDiv rd rs1 rs2) s rd
        (wrap32 (if s.params.divMode = .trunc then (s32 a).tdiv (s32 b) else (s32 a).fdiv (s32 b))) loss) ∧
    (s32 b = 0 → exec (.cDiv rd rs1 rs2) s = .fault (.divideByZero s.pc)) ∧
    (b ≠ 0x00000000 → b ≠ 0x80000000 → CompletesConfAny (.cFdiv rd rs1 rs2) s rd (Fnum.div a b) loss) ∧
    (b = 0x00000000 ∨ b = 0x80000000 → exec (.cFdiv rd rs1 rs2) s = .fault (.divideByZero s.pc))

/-- For every parameter: min is one of its operands and has the lower value; mul is at most min and divloss at most mul;
ofByte is 0 at 0, 1 at 255 and monotone; lt compares values. In the recommended instance mul is the product, divloss
the product times 1 - EPSILON, ofByte n/255. The type is the rationals in 0..1 (the model's choice among the
admissible, log 10). (48_confidence_a2a.md section 1) -/
def Obligations.ConfidenceLaws : Prop :=
  (∀ a b : Conf, (Conf.min a b = a ∨ Conf.min a b = b) ∧ (Conf.min a b).val ≤ a.val ∧ (Conf.min a b).val ≤ b.val ∧
    (Conf.lt a b = true ↔ a.val < b.val)) ∧
  (∀ (p : ConfParam) (a b : Conf), (Conf.mul p a b).val ≤ (Conf.min a b).val ∧
    (Conf.divloss p a b).val ≤ (Conf.mul p a b).val) ∧
  (∀ p : ConfParam, (Conf.ofByte p 0).val = 0 ∧ (Conf.ofByte p 255).val = 1 ∧
    ∀ m n : Byte, m ≤ n → (Conf.ofByte p m).val ≤ (Conf.ofByte p n).val) ∧
  (∀ (e : Epsilon) (a b : Conf) (n : Byte), (Conf.mul (.exactRationals e) a b).val = a.val * b.val ∧
    (Conf.divloss (.exactRationals e) a b).val = a.val * b.val * (1 - e.val) ∧
    (Conf.ofByte (.exactRationals e) n).val = (n.toNat : Rat) / 255)

/-- For every state and operands, valid or not: each of C_ADD to C_FDIV and its base instruction both complete with the
same registers, memory and pc, or both stop with the same fault or refusal. (48_confidence_a2a.md section 1) -/
def Obligations.ConfidenceErasure : Prop :=
  ∀ (s : State) (rd rs1 rs2 : Byte),
    SameButConfidence (exec (.cAdd rd rs1 rs2) s) (exec (.add rd rs1 rs2) s) ∧
    SameButConfidence (exec (.cSub rd rs1 rs2) s) (exec (.sub rd rs1 rs2) s) ∧
    SameButConfidence (exec (.cMul rd rs1 rs2) s) (exec (.mul rd rs1 rs2) s) ∧
    SameButConfidence (exec (.cDiv rd rs1 rs2) s) (exec (.div rd rs1 rs2) s) ∧
    SameButConfidence (exec (.cFadd rd rs1 rs2) s) (exec (.fadd rd rs1 rs2) s) ∧
    SameButConfidence (exec (.cFsub rd rs1 rs2) s) (exec (.fsub rd rs1 rs2) s) ∧
    SameButConfidence (exec (.cFmul rd rs1 rs2) s) (exec (.fmul rd rs1 rs2) s) ∧
    SameButConfidence (exec (.cFdiv rd rs1 rs2) s) (exec (.fdiv rd rs1 rs2) s)

/-- For every register number in range: with c[rd] not below ofByte(imm8) only pc changes, to pc + 3. With c[rd] below it:
pc becomes pc + 3 plus the length of the opcode byte there, nothing else changing; with no byte there it raises
FetchFault(pc + 3); with a reserved slot or ILLEGAL there it is refused. (R521) -/
def Obligations.ConfThreshSkipsOneInstruction : Prop :=
  ∀ (s : State) (rd imm8 : Byte), NamesCell s rd →
    let t := Conf.ofByte s.params.conf imm8
    let npc := s.pc + 3
    (t.val ≤ (s.getC rd).val → exec (.cThresh rd imm8) s = .next { s with pc := npc }) ∧
    ((s.getC rd).val < t.val → (npc < 0 ∨ s.code.length ≤ npc) →
      exec (.cThresh rd imm8) s = .fault (.fetchFault npc)) ∧
    ((s.getC rd).val < t.val → 0 ≤ npc → ∀ op, s.code[npc.toNat]? = some op →
      (∀ len, opLength op = some len → exec (.cThresh rd imm8) s = .next { s with pc := npc + len }) ∧
      (opLength op = none → exec (.cThresh rd imm8) s = .refused .cThreshSkipReserved))

/-- For 32-bit registers in every state: ABS gives the wrapped magnitude with Z and S; SIGN gives -1, 0 or 1; CLZ gives 32
for 0 and otherwise the k with bit 31 - k set and every higher bit clear; POPCNT the number of set bits; the last
three write Z alone. Nothing else changes but pc. (R460, R461, R465, R467) -/
def Obligations.AbsSignAndCounts : Prop :=
  ∀ (s : State) (rd rs1 ign : Byte), Regs32 s [rd, rs1] →
    let v := s.getX rs1
    CompletesZAndS (.abs rd rs1 ign) s rd (wrap32 |s32 v|) 4 ∧
    CompletesZ (.sign rd rs1 ign) s rd (wrap32 (s32 v).sign) 4 ∧
    (v = 0 → CompletesZ (.clz rd rs1 ign) s rd 32 4) ∧
    (∀ k < 32, v.getLsbD (31 - k) = true → (∀ j, 31 - k < j → v.getLsbD j = false) →
      CompletesZ (.clz rd rs1 ign) s rd (BitVec.ofNat 32 k) 4) ∧
    CompletesZ (.popcnt rd rs1 ign) s rd
      (BitVec.ofNat 32 ((List.range 32).countP fun k => v.getLsbD k)) 4

/-- For 32-bit registers: SQRT of a value not negative gives the n with n * n at most it and (n+1) * (n+1) above it, with
Z; a negative is refused. POW with an exponent not negative gives the power when it is in s32 (any base to the 0 is
1), with Z and S; a power outside s32 and a negative exponent are refused. Nothing else changes but pc. (R462, R463) -/
def Obligations.SqrtAndPow : Prop :=
  ∀ (s : State) (rd rs1 rs2 ign : Byte), Regs32 s [rd, rs1, rs2] →
    let a := s32 (s.getX rs1)
    let b := s32 (s.getX rs2)
    (∀ n : Nat, (n * n : Int) ≤ a → a < ((n + 1) * (n + 1) : Int) →
      CompletesZ (.sqrt rd rs1 ign) s rd (BitVec.ofNat 32 n) 4) ∧
    (0 ≤ a → ∃ n : Nat, (n * n : Int) ≤ a ∧ a < ((n + 1) * (n + 1) : Int)) ∧
    (a < 0 → exec (.sqrt rd rs1 ign) s = .refused .sqrtNegative) ∧
    (0 ≤ b → -2 ^ 31 ≤ a ^ b.toNat → a ^ b.toNat ≤ 2 ^ 31 - 1 →
      CompletesZAndS (.pow rd rs1 rs2) s rd (wrap32 (a ^ b.toNat)) 4) ∧
    (0 ≤ b → (a ^ b.toNat < -2 ^ 31 ∨ 2 ^ 31 - 1 < a ^ b.toNat) →
      exec (.pow rd rs1 rs2) s = .refused .powOverflow) ∧
    (b < 0 → exec (.pow rd rs1 rs2) s = .refused .powNegativeExponent)

/-- For 32-bit registers: LOG2 of a positive value gives the k with 2^k at most it and 2^(k+1) above it, with Z; otherwise
it raises DomainError(pc). CTZ of a value other than 0 gives the k with bit k set and every lower bit clear, with Z;
of 0 it completes with some value and some Z, the other flags and all else unchanged. (R464, R466) -/
def Obligations.Log2AndCtz : Prop :=
  ∀ (s : State) (rd rs1 ign : Byte), Regs32 s [rd, rs1] →
    let v := s.getX rs1
    (∀ k : Nat, (2 ^ k : Int) ≤ s32 v → s32 v < (2 ^ (k + 1) : Int) →
      CompletesZ (.log2 rd rs1 ign) s rd (BitVec.ofNat 32 k) 4) ∧
    (s32 v ≤ 0 → exec (.log2 rd rs1 ign) s = .fault (.domainError s.pc)) ∧
    (∀ k < 32, v.getLsbD k = true → (∀ j < k, v.getLsbD j = false) →
      CompletesZ (.ctz rd rs1 ign) s rd (BitVec.ofNat 32 k) 4) ∧
    (v = 0 → ∃ t r, exec (.ctz rd rs1 ign) s = .next t ∧ t.pc = s.pc + 4 ∧ WritesReg s t rd r ∧ SameFlagsButZ s t)

/-- For 32-bit registers: CRC32 of n bytes inside memory, or of none, gives CRC32_FN of them with Z alone written,
otherwise MemoryFault. RND with bounds in order gives inRange of the word drawn (the form of the draw is the model's
choice, log 37), flags unchanged; inRange of every word lies in the signed range, and every value of the range is that
of some word; bounds out of order are refused. SEED installs rs1 and gives rd the previous seed, 0 if unset, flags
unchanged. Nothing else changes but pc. (47_extmath_collection.md section 1, R468, R470, R471; log 37) -/
def Obligations.CrcRndAndSeed : Prop :=
  ∀ (s : State) (rd rs1 rs2 ign : Byte), Regs32 s [rd, rs1, rs2] →
    let a := s32 (s.getX rs1)
    let b := s32 (s.getX rs2)
    let n := u32 (s.getX rs2)
    ((n = 0 ∨ InMemory a n) →
      CompletesZ (.crc32 rd rs1 rs2) s rd
        (crc32 s.params.crc32 ((List.range n).map fun k => s.mem.get (a.toNat + k))) 4) ∧
    (0 < n → ¬ InMemory a n → exec (.crc32 rd rs1 rs2) s = .fault (.memoryFault a)) ∧
    (a ≤ b → CompletesX (.rnd rd rs1 rs2) s rd (inRange a b (Config.anyWord s.draws)) 4) ∧
    (a ≤ b → ∀ w, a ≤ s32 (inRange a b w) ∧ s32 (inRange a b w) ≤ b) ∧
    (∀ r : Word, a ≤ s32 r → s32 r ≤ b → ∃ w, inRange a b w = r) ∧
    (b < a → exec (.rnd rd rs1 rs2) s = .refused .rndEmptyRange) ∧
    (∃ t, exec (.seed rd rs1 ign) s = .next t ∧ t.seed = some (s.getX rs1) ∧
      t.getX rd = (if rd = 0 then 0 else s.seed.getD 0) ∧ SameRegs [rd] s t ∧ t.flags = s.flags ∧ t.pc = s.pc + 4 ∧
      SameMemory s t ∧ SameConfidence s t ∧ t.halted = s.halted ∧ t.cycles = s.cycles ∧ t.debugOut = s.debugOut ∧
      SameEnvironment s t)
end

