-- ==== Sys2Proof/Laws/Memory.lean ====
section
/-! SUPPORT. Reading after writing, and the canonical form of memory: every operation keeps it. -/

namespace Sys2Proof.Machine

namespace Memory

theorem wfFrom_cons {lo a : Nat} {v : Byte} {rest : Memory} :
    wfFrom lo ((a, v) :: rest) = true ↔
      lo ≤ a ∧ a < Config.memSize ∧ v ≠ Memory.unlisted ∧ wfFrom (a + 1) rest = true := by
  simp [wfFrom, and_assoc]

theorem wfFrom_mono {lo hi : Nat} (h : lo ≤ hi) : ∀ {m : Memory}, wfFrom hi m = true → wfFrom lo m = true
  | [], _ => rfl
  | (_, _) :: _, hm => by
    rw [wfFrom_cons] at hm ⊢
    exact ⟨Nat.le_trans h hm.1, hm.2⟩

/-- An address below every listed one reads as unlisted. -/
theorem get_of_lt : ∀ {m : Memory} {lo a : Nat}, wfFrom lo m = true → a < lo → m.get a = Memory.unlisted
  | [], _, _, _, _ => rfl
  | (b, _) :: rest, lo, a, hm, ha => by
    rw [wfFrom_cons] at hm
    have hb : b ≠ a := by omega
    simp only [get, hb, if_false]
    exact get_of_lt hm.2.2.2 (by omega)

theorem get_set_from : ∀ {m : Memory} {lo : Nat} (_ : wfFrom lo m = true) (a : Nat) (v : Byte) (b : Nat),
    (m.set a v).get b = if b = a then v else m.get b
  | [], _, _, a, v, b => by
    by_cases hv : v = Memory.unlisted <;> by_cases hb : b = a <;> simp [set, get, hv, hb, eq_comm]
    exact fun h => absurd h.symm hb
  | (c, w) :: rest, lo, hm, a, v, b => by
    rw [wfFrom_cons] at hm
    have hrest : ∀ {x}, x < c + 1 → Memory.get rest x = Memory.unlisted := fun h => get_of_lt hm.2.2.2 h
    by_cases hac : a < c
    · by_cases hv : v = Memory.unlisted
      · by_cases hb : b = a
        · subst hb
          have hcb : c ≠ b := by omega
          simp [set, get, hac, hv, hcb, hrest (show b < c + 1 by omega)]
        · simp [set, get, hac, hv, hb]
      · by_cases hb : b = a
        · subst hb; simp [set, get, hac, hv]
        · have hab : a ≠ b := fun h => hb h.symm
          simp [set, get, hac, hv, hb, hab]
    · by_cases hce : a = c
      · subst hce
        by_cases hv : v = Memory.unlisted
        · by_cases hb : b = a
          · subst hb; simp [set, hv, hrest (show b < b + 1 by omega)]
          · have hab : a ≠ b := fun h => hb h.symm
            simp [set, get, hv, hb, hab]
        · by_cases hb : b = a
          · subst hb; simp [set, get, hv]
          · have hab : a ≠ b := fun h => hb h.symm
            simp [set, get, hv, hb, hab]
      · have ih := get_set_from hm.2.2.2 a v b
        by_cases hcb : c = b
        · subst hcb
          have : c ≠ a := fun h => hce h.symm
          simp [set, get, hac, hce, this]
        · simp [set, get, hac, hce, hcb, ih]

/-- Read after write of one byte. -/
theorem get_set {m : Memory} (h : m.wf = true) (a : Nat) (v : Byte) (b : Nat) :
    (m.set a v).get b = if b = a then v else m.get b := get_set_from h a v b

theorem set_wfFrom : ∀ {m : Memory} {lo : Nat} (_ : wfFrom lo m = true) {a : Nat} (_ : lo ≤ a)
    (_ : a < Config.memSize) (v : Byte), wfFrom lo (m.set a v) = true
  | [], lo, _, a, hlo, ha, v => by
    by_cases hv : v = Memory.unlisted
    · simp [set, hv, wfFrom]
    · simp only [set, hv, if_false]; rw [wfFrom_cons]; exact ⟨hlo, ha, hv, rfl⟩
  | (c, w) :: rest, lo, hm, a, hlo, ha, v => by
    have hm' := hm
    rw [wfFrom_cons] at hm
    by_cases hac : a < c
    · by_cases hv : v = Memory.unlisted
      · simpa [set, hac, hv] using hm'
      · simp only [set, hac, hv, if_true, if_false]
        rw [wfFrom_cons, wfFrom_cons]
        exact ⟨hlo, ha, hv, hac, hm.2⟩
    · by_cases hce : a = c
      · subst hce
        by_cases hv : v = Memory.unlisted
        · simp only [set, hv, if_true, Nat.lt_irrefl, if_false]
          exact wfFrom_mono (by omega) hm.2.2.2
        · simp only [set, hv, if_true, Nat.lt_irrefl, if_false]
          rw [wfFrom_cons]; exact ⟨hlo, ha, hv, hm.2.2.2⟩
      · simp only [set, hac, hce, if_false]
        rw [wfFrom_cons]
        exact ⟨hm.1, hm.2.1, hm.2.2.1, set_wfFrom hm.2.2.2 (by omega) ha v⟩

/-- A write inside the memory keeps the canonical form. -/
theorem set_wf {m : Memory} (h : m.wf = true) {a : Nat} (ha : a < Config.memSize) (v : Byte) :
    (m.set a v).wf = true := set_wfFrom h (Nat.zero_le a) ha v

theorem setBytes_wf : ∀ (bs : List Byte) {m : Memory} (_ : m.wf = true) {a : Nat}
    (_ : a + bs.length ≤ Config.memSize), (m.setBytes a bs).wf = true
  | [], _, h, _, _ => h
  | b :: bs, m, h, a, ha => by
    rw [List.length_cons] at ha
    exact setBytes_wf bs (set_wf h (by omega) b) (by omega)

/-- What a byte reads after a run of bytes is stored. -/
theorem get_setBytes : ∀ (bs : List Byte) {m : Memory} (_ : m.wf = true) {a : Nat}
    (_ : a + bs.length ≤ Config.memSize) (b : Nat),
    (m.setBytes a bs).get b = if a ≤ b then (bs[b - a]?).getD (m.get b) else m.get b
  | [], _, _, _, _, _ => by simp [setBytes]
  | c :: bs, m, h, a, ha, b => by
    rw [List.length_cons] at ha
    have ih := get_setBytes bs (set_wf h (show a < Config.memSize by omega) c) (a := a + 1) (by omega) b
    rw [setBytes, ih, get_set h]
    by_cases h1 : a + 1 ≤ b
    · have h2 : a ≤ b := by omega
      have h3 : b ≠ a := by omega
      have h4 : b - a = (b - (a + 1)) + 1 := by omega
      simp [h1, h2, h3, h4]
    · by_cases h2 : b = a
      · subst h2; simp
      · have h3 : ¬ a ≤ b := by omega
        simp [h1, h2, h3]

theorem copyUp_wf : ∀ (n : Nat) {m : Memory} (_ : m.wf = true) {d : Nat} (_ : d + n ≤ Config.memSize) (s : Nat),
    (m.copyUp d s n).wf = true
  | 0, _, h, _, _, _ => h
  | n + 1, _, h, _, hd, _ => copyUp_wf n (set_wf h (by omega) _) (by omega) _

/-- A copy changes no byte outside its destination. -/
theorem get_copyUp_outside : ∀ (n : Nat) {m : Memory} (_ : m.wf = true) {d : Nat} (_ : d + n ≤ Config.memSize)
    (s : Nat) {b : Nat} (_ : b < d ∨ d + n ≤ b), (m.copyUp d s n).get b = m.get b
  | 0, _, _, _, _, _, _, _ => rfl
  | n + 1, m, h, d, hd, s, b, hb => by
    rw [copyUp, get_copyUp_outside n (set_wf h (show d < Config.memSize by omega) _) (by omega) _ (by omega),
      get_set h, if_neg (by omega)]

theorem fill_wf : ∀ (n : Nat) {m : Memory} (_ : m.wf = true) {d : Nat} (_ : d + n ≤ Config.memSize) (v : Byte),
    (m.fill d v n).wf = true
  | 0, _, h, _, _, _ => h
  | n + 1, _, h, _, hd, _ => fill_wf n (set_wf h (by omega) _) (by omega) _

/-- What a byte reads after a fill. -/
theorem get_fill : ∀ (n : Nat) {m : Memory} (_ : m.wf = true) {d : Nat} (_ : d + n ≤ Config.memSize) (v : Byte)
    (b : Nat), (m.fill d v n).get b = if d ≤ b ∧ b < d + n then v else m.get b
  | 0, _, _, _, _, _, _ => by simp [fill]
  | n + 1, m, h, d, hd, v, b => by
    rw [fill, get_fill n (set_wf h (show d < Config.memSize by omega) v) (by omega), get_set h]
    by_cases h1 : b = d
    · subst h1; simp
    · by_cases h2 : d ≤ b ∧ b < d + (n + 1)
      · rw [if_pos (by omega), if_pos h2]
      · rw [if_neg (by omega), if_neg h1, if_neg h2]

/-- The memory right after reset has the canonical form. -/
theorem reset_wf : State.reset.mem.wf = true ∧ State.reset.heap.wf = true := ⟨rfl, rfl⟩

end Memory

theorem inBounds_iff {a : Int} {n : Nat} : inBounds a n = true ↔ 0 ≤ a ∧ a + n ≤ Config.memSize := by
  simp [inBounds]

/-- Where a checked load answers, it answers the word there, and the four bytes are inside the memory. -/
theorem load32_some {m : Memory} {a : Int} {v : Word} (h : m.load32 a = some v) :
    0 ≤ a ∧ a + 4 ≤ Config.memSize ∧ v = m.word a.toNat := by
  unfold Memory.load32 at h
  split at h
  · rename_i hb; rw [inBounds_iff] at hb; exact ⟨hb.1, hb.2, by simpa using h.symm⟩
  · cases h

/-- Where a checked store answers, it has stored the four bytes, and they are inside the memory. -/
theorem store32_some {m m' : Memory} {a : Int} {v : Word} (h : m.store32 a v = some m') :
    0 ≤ a ∧ a + 4 ≤ Config.memSize ∧ m' = m.setBytes a.toNat (wordBytes v) := by
  unfold Memory.store32 at h
  split at h
  · rename_i hb; rw [inBounds_iff] at hb; exact ⟨hb.1, hb.2, by simpa using h.symm⟩
  · cases h

/-- A checked store keeps the canonical form. -/
theorem store32_wf {m m' : Memory} (hm : m.wf = true) {a : Int} {v : Word} (h : m.store32 a v = some m') :
    m'.wf = true := by
  obtain ⟨h0, h4, rfl⟩ := store32_some h
  exact Memory.setBytes_wf _ hm (by simp [wordBytes]; omega)

end Sys2Proof.Machine
end

