-- ==== Sys2Proof/Laws/State.lean ====
section
/-! SUPPORT. What each update of the state does to each field, and what a register or a confidence cell reads after it. -/

namespace Sys2Proof.Machine

namespace State

variable (s : State)

@[simp] theorem setX_x (r : Byte) (w : Word) : (s.setX r w).x = writeX s.x r w := rfl
@[simp] theorem setX_v (r : Byte) (w : Word) : (s.setX r w).v = s.v := rfl
@[simp] theorem setX_pc (r : Byte) (w : Word) : (s.setX r w).pc = s.pc := rfl
@[simp] theorem setX_halted (r : Byte) (w : Word) : (s.setX r w).halted = s.halted := rfl
@[simp] theorem setX_cycles (r : Byte) (w : Word) : (s.setX r w).cycles = s.cycles := rfl
@[simp] theorem setX_flags (r : Byte) (w : Word) : (s.setX r w).flags = s.flags := rfl
@[simp] theorem setX_conf (r : Byte) (w : Word) : (s.setX r w).conf = s.conf := rfl
@[simp] theorem setX_cacc (r : Byte) (w : Word) : (s.setX r w).cacc = s.cacc := rfl
@[simp] theorem setX_mem (r : Byte) (w : Word) : (s.setX r w).mem = s.mem := rfl
@[simp] theorem setX_heap (r : Byte) (w : Word) : (s.setX r w).heap = s.heap := rfl
@[simp] theorem setX_regions (r : Byte) (w : Word) : (s.setX r w).regions = s.regions := rfl
@[simp] theorem setX_seed (r : Byte) (w : Word) : (s.setX r w).seed = s.seed := rfl
@[simp] theorem setX_code (r : Byte) (w : Word) : (s.setX r w).code = s.code := rfl
@[simp] theorem setX_params (r : Byte) (w : Word) : (s.setX r w).params = s.params := rfl
@[simp] theorem setX_debugOut (r : Byte) (w : Word) : (s.setX r w).debugOut = s.debugOut := rfl
@[simp] theorem setX_draws (r : Byte) (w : Word) : (s.setX r w).draws = s.draws := rfl
@[simp] theorem setX_getC (r : Byte) (w : Word) (q : Byte) : (s.setX r w).getC q = s.getC q := rfl

@[simp] theorem setC_x (r : Byte) (k : Conf) : (s.setC r k).x = s.x := rfl
@[simp] theorem setC_v (r : Byte) (k : Conf) : (s.setC r k).v = s.v := rfl
@[simp] theorem setC_pc (r : Byte) (k : Conf) : (s.setC r k).pc = s.pc := rfl
@[simp] theorem setC_halted (r : Byte) (k : Conf) : (s.setC r k).halted = s.halted := rfl
@[simp] theorem setC_cycles (r : Byte) (k : Conf) : (s.setC r k).cycles = s.cycles := rfl
@[simp] theorem setC_flags (r : Byte) (k : Conf) : (s.setC r k).flags = s.flags := rfl
@[simp] theorem setC_conf (r : Byte) (k : Conf) : (s.setC r k).conf = writeC s.conf r k := rfl
@[simp] theorem setC_cacc (r : Byte) (k : Conf) : (s.setC r k).cacc = s.cacc := rfl
@[simp] theorem setC_mem (r : Byte) (k : Conf) : (s.setC r k).mem = s.mem := rfl
@[simp] theorem setC_heap (r : Byte) (k : Conf) : (s.setC r k).heap = s.heap := rfl
@[simp] theorem setC_regions (r : Byte) (k : Conf) : (s.setC r k).regions = s.regions := rfl
@[simp] theorem setC_seed (r : Byte) (k : Conf) : (s.setC r k).seed = s.seed := rfl
@[simp] theorem setC_code (r : Byte) (k : Conf) : (s.setC r k).code = s.code := rfl
@[simp] theorem setC_params (r : Byte) (k : Conf) : (s.setC r k).params = s.params := rfl
@[simp] theorem setC_debugOut (r : Byte) (k : Conf) : (s.setC r k).debugOut = s.debugOut := rfl
@[simp] theorem setC_draws (r : Byte) (k : Conf) : (s.setC r k).draws = s.draws := rfl
@[simp] theorem setC_getX (r : Byte) (k : Conf) (q : Byte) : (s.setC r k).getX q = s.getX q := rfl

@[simp] theorem setCacc_x (k : Conf) : (s.setCacc k).x = s.x := rfl
@[simp] theorem setCacc_v (k : Conf) : (s.setCacc k).v = s.v := rfl
@[simp] theorem setCacc_pc (k : Conf) : (s.setCacc k).pc = s.pc := rfl
@[simp] theorem setCacc_halted (k : Conf) : (s.setCacc k).halted = s.halted := rfl
@[simp] theorem setCacc_cycles (k : Conf) : (s.setCacc k).cycles = s.cycles := rfl
@[simp] theorem setCacc_flags (k : Conf) : (s.setCacc k).flags = s.flags := rfl
@[simp] theorem setCacc_conf (k : Conf) : (s.setCacc k).conf = s.conf := rfl
@[simp] theorem setCacc_cacc (k : Conf) : (s.setCacc k).cacc = k := rfl
@[simp] theorem setCacc_mem (k : Conf) : (s.setCacc k).mem = s.mem := rfl
@[simp] theorem setCacc_heap (k : Conf) : (s.setCacc k).heap = s.heap := rfl
@[simp] theorem setCacc_regions (k : Conf) : (s.setCacc k).regions = s.regions := rfl
@[simp] theorem setCacc_seed (k : Conf) : (s.setCacc k).seed = s.seed := rfl
@[simp] theorem setCacc_code (k : Conf) : (s.setCacc k).code = s.code := rfl
@[simp] theorem setCacc_params (k : Conf) : (s.setCacc k).params = s.params := rfl
@[simp] theorem setCacc_debugOut (k : Conf) : (s.setCacc k).debugOut = s.debugOut := rfl
@[simp] theorem setCacc_draws (k : Conf) : (s.setCacc k).draws = s.draws := rfl
@[simp] theorem setCacc_getX (k : Conf) (q : Byte) : (s.setCacc k).getX q = s.getX q := rfl
@[simp] theorem setCacc_getC (k : Conf) (q : Byte) : (s.setCacc k).getC q = s.getC q := rfl

@[simp] theorem setSeed_x (w : Word) : (s.setSeed w).x = s.x := rfl
@[simp] theorem setSeed_v (w : Word) : (s.setSeed w).v = s.v := rfl
@[simp] theorem setSeed_pc (w : Word) : (s.setSeed w).pc = s.pc := rfl
@[simp] theorem setSeed_halted (w : Word) : (s.setSeed w).halted = s.halted := rfl
@[simp] theorem setSeed_cycles (w : Word) : (s.setSeed w).cycles = s.cycles := rfl
@[simp] theorem setSeed_flags (w : Word) : (s.setSeed w).flags = s.flags := rfl
@[simp] theorem setSeed_conf (w : Word) : (s.setSeed w).conf = s.conf := rfl
@[simp] theorem setSeed_cacc (w : Word) : (s.setSeed w).cacc = s.cacc := rfl
@[simp] theorem setSeed_mem (w : Word) : (s.setSeed w).mem = s.mem := rfl
@[simp] theorem setSeed_heap (w : Word) : (s.setSeed w).heap = s.heap := rfl
@[simp] theorem setSeed_regions (w : Word) : (s.setSeed w).regions = s.regions := rfl
@[simp] theorem setSeed_seed (w : Word) : (s.setSeed w).seed = some w := rfl
@[simp] theorem setSeed_code (w : Word) : (s.setSeed w).code = s.code := rfl
@[simp] theorem setSeed_params (w : Word) : (s.setSeed w).params = s.params := rfl
@[simp] theorem setSeed_debugOut (w : Word) : (s.setSeed w).debugOut = s.debugOut := rfl
@[simp] theorem setSeed_draws (w : Word) : (s.setSeed w).draws = s.draws := rfl
@[simp] theorem setSeed_getX (w : Word) (q : Byte) : (s.setSeed w).getX q = s.getX q := rfl
@[simp] theorem setSeed_getC (w : Word) (q : Byte) : (s.setSeed w).getC q = s.getC q := rfl

@[simp] theorem setMem_x (m : Memory) : (s.setMem m).x = s.x := rfl
@[simp] theorem setMem_v (m : Memory) : (s.setMem m).v = s.v := rfl
@[simp] theorem setMem_pc (m : Memory) : (s.setMem m).pc = s.pc := rfl
@[simp] theorem setMem_halted (m : Memory) : (s.setMem m).halted = s.halted := rfl
@[simp] theorem setMem_cycles (m : Memory) : (s.setMem m).cycles = s.cycles := rfl
@[simp] theorem setMem_flags (m : Memory) : (s.setMem m).flags = s.flags := rfl
@[simp] theorem setMem_conf (m : Memory) : (s.setMem m).conf = s.conf := rfl
@[simp] theorem setMem_cacc (m : Memory) : (s.setMem m).cacc = s.cacc := rfl
@[simp] theorem setMem_mem (m : Memory) : (s.setMem m).mem = m := rfl
@[simp] theorem setMem_heap (m : Memory) : (s.setMem m).heap = s.heap := rfl
@[simp] theorem setMem_regions (m : Memory) : (s.setMem m).regions = s.regions := rfl
@[simp] theorem setMem_seed (m : Memory) : (s.setMem m).seed = s.seed := rfl
@[simp] theorem setMem_code (m : Memory) : (s.setMem m).code = s.code := rfl
@[simp] theorem setMem_params (m : Memory) : (s.setMem m).params = s.params := rfl
@[simp] theorem setMem_debugOut (m : Memory) : (s.setMem m).debugOut = s.debugOut := rfl
@[simp] theorem setMem_draws (m : Memory) : (s.setMem m).draws = s.draws := rfl
@[simp] theorem setMem_getX (m : Memory) (q : Byte) : (s.setMem m).getX q = s.getX q := rfl
@[simp] theorem setMem_getC (m : Memory) (q : Byte) : (s.setMem m).getC q = s.getC q := rfl

@[simp] theorem halt_x : s.halt.x = s.x := rfl
@[simp] theorem halt_v : s.halt.v = s.v := rfl
@[simp] theorem halt_pc : s.halt.pc = s.pc := rfl
@[simp] theorem halt_halted : s.halt.halted = true := rfl
@[simp] theorem halt_cycles : s.halt.cycles = s.cycles := rfl
@[simp] theorem halt_flags : s.halt.flags = s.flags := rfl
@[simp] theorem halt_conf : s.halt.conf = s.conf := rfl
@[simp] theorem halt_cacc : s.halt.cacc = s.cacc := rfl
@[simp] theorem halt_mem : s.halt.mem = s.mem := rfl
@[simp] theorem halt_heap : s.halt.heap = s.heap := rfl
@[simp] theorem halt_regions : s.halt.regions = s.regions := rfl
@[simp] theorem halt_seed : s.halt.seed = s.seed := rfl
@[simp] theorem halt_code : s.halt.code = s.code := rfl
@[simp] theorem halt_params : s.halt.params = s.params := rfl
@[simp] theorem halt_debugOut : s.halt.debugOut = s.debugOut := rfl
@[simp] theorem halt_draws : s.halt.draws = s.draws := rfl
@[simp] theorem halt_getX (q : Byte) : s.halt.getX q = s.getX q := rfl
@[simp] theorem halt_getC (q : Byte) : s.halt.getC q = s.getC q := rfl

@[simp] theorem emit_x (r : Byte) (w : Word) : (s.emit r w).x = s.x := rfl
@[simp] theorem emit_v (r : Byte) (w : Word) : (s.emit r w).v = s.v := rfl
@[simp] theorem emit_pc (r : Byte) (w : Word) : (s.emit r w).pc = s.pc := rfl
@[simp] theorem emit_halted (r : Byte) (w : Word) : (s.emit r w).halted = s.halted := rfl
@[simp] theorem emit_cycles (r : Byte) (w : Word) : (s.emit r w).cycles = s.cycles := rfl
@[simp] theorem emit_flags (r : Byte) (w : Word) : (s.emit r w).flags = s.flags := rfl
@[simp] theorem emit_conf (r : Byte) (w : Word) : (s.emit r w).conf = s.conf := rfl
@[simp] theorem emit_cacc (r : Byte) (w : Word) : (s.emit r w).cacc = s.cacc := rfl
@[simp] theorem emit_mem (r : Byte) (w : Word) : (s.emit r w).mem = s.mem := rfl
@[simp] theorem emit_heap (r : Byte) (w : Word) : (s.emit r w).heap = s.heap := rfl
@[simp] theorem emit_regions (r : Byte) (w : Word) : (s.emit r w).regions = s.regions := rfl
@[simp] theorem emit_seed (r : Byte) (w : Word) : (s.emit r w).seed = s.seed := rfl
@[simp] theorem emit_code (r : Byte) (w : Word) : (s.emit r w).code = s.code := rfl
@[simp] theorem emit_params (r : Byte) (w : Word) : (s.emit r w).params = s.params := rfl
@[simp] theorem emit_debugOut (r : Byte) (w : Word) : (s.emit r w).debugOut = s.debugOut ++ [⟨r, w⟩] := rfl
@[simp] theorem emit_draws (r : Byte) (w : Word) : (s.emit r w).draws = s.draws := rfl
@[simp] theorem emit_getX (r : Byte) (w : Word) (q : Byte) : (s.emit r w).getX q = s.getX q := rfl
@[simp] theorem emit_getC (r : Byte) (w : Word) (q : Byte) : (s.emit r w).getC q = s.getC q := rfl

@[simp] theorem drew_x : s.drew.x = s.x := rfl
@[simp] theorem drew_v : s.drew.v = s.v := rfl
@[simp] theorem drew_pc : s.drew.pc = s.pc := rfl
@[simp] theorem drew_halted : s.drew.halted = s.halted := rfl
@[simp] theorem drew_cycles : s.drew.cycles = s.cycles := rfl
@[simp] theorem drew_flags : s.drew.flags = s.flags := rfl
@[simp] theorem drew_conf : s.drew.conf = s.conf := rfl
@[simp] theorem drew_cacc : s.drew.cacc = s.cacc := rfl
@[simp] theorem drew_mem : s.drew.mem = s.mem := rfl
@[simp] theorem drew_heap : s.drew.heap = s.heap := rfl
@[simp] theorem drew_regions : s.drew.regions = s.regions := rfl
@[simp] theorem drew_seed : s.drew.seed = s.seed := rfl
@[simp] theorem drew_code : s.drew.code = s.code := rfl
@[simp] theorem drew_params : s.drew.params = s.params := rfl
@[simp] theorem drew_debugOut : s.drew.debugOut = s.debugOut := rfl
@[simp] theorem drew_draws : s.drew.draws = s.draws + 1 := rfl
@[simp] theorem drew_getX (q : Byte) : s.drew.getX q = s.getX q := rfl
@[simp] theorem drew_getC (q : Byte) : s.drew.getC q = s.getC q := rfl

@[simp] theorem clearRegs_x : s.clearRegs.x = Vector.replicate 48 0 := rfl
@[simp] theorem clearRegs_v : s.clearRegs.v = Vector.replicate 16 0 := rfl
@[simp] theorem clearRegs_pc : s.clearRegs.pc = s.pc := rfl
@[simp] theorem clearRegs_halted : s.clearRegs.halted = s.halted := rfl
@[simp] theorem clearRegs_cycles : s.clearRegs.cycles = s.cycles := rfl
@[simp] theorem clearRegs_flags : s.clearRegs.flags = s.flags := rfl
@[simp] theorem clearRegs_conf : s.clearRegs.conf = s.conf := rfl
@[simp] theorem clearRegs_cacc : s.clearRegs.cacc = s.cacc := rfl
@[simp] theorem clearRegs_mem : s.clearRegs.mem = s.mem := rfl
@[simp] theorem clearRegs_heap : s.clearRegs.heap = s.heap := rfl
@[simp] theorem clearRegs_regions : s.clearRegs.regions = s.regions := rfl
@[simp] theorem clearRegs_seed : s.clearRegs.seed = s.seed := rfl
@[simp] theorem clearRegs_code : s.clearRegs.code = s.code := rfl
@[simp] theorem clearRegs_params : s.clearRegs.params = s.params := rfl
@[simp] theorem clearRegs_debugOut : s.clearRegs.debugOut = s.debugOut := rfl
@[simp] theorem clearRegs_draws : s.clearRegs.draws = s.draws := rfl
@[simp] theorem clearRegs_getC (q : Byte) : s.clearRegs.getC q = s.getC q := rfl

@[simp] theorem setPc_x (t : Int) : (s.setPc t).x = s.x := rfl
@[simp] theorem setPc_v (t : Int) : (s.setPc t).v = s.v := rfl
@[simp] theorem setPc_pc (t : Int) : (s.setPc t).pc = t := rfl
@[simp] theorem setPc_halted (t : Int) : (s.setPc t).halted = s.halted := rfl
@[simp] theorem setPc_cycles (t : Int) : (s.setPc t).cycles = s.cycles := rfl
@[simp] theorem setPc_flags (t : Int) : (s.setPc t).flags = s.flags := rfl
@[simp] theorem setPc_conf (t : Int) : (s.setPc t).conf = s.conf := rfl
@[simp] theorem setPc_cacc (t : Int) : (s.setPc t).cacc = s.cacc := rfl
@[simp] theorem setPc_mem (t : Int) : (s.setPc t).mem = s.mem := rfl
@[simp] theorem setPc_heap (t : Int) : (s.setPc t).heap = s.heap := rfl
@[simp] theorem setPc_regions (t : Int) : (s.setPc t).regions = s.regions := rfl
@[simp] theorem setPc_seed (t : Int) : (s.setPc t).seed = s.seed := rfl
@[simp] theorem setPc_code (t : Int) : (s.setPc t).code = s.code := rfl
@[simp] theorem setPc_params (t : Int) : (s.setPc t).params = s.params := rfl
@[simp] theorem setPc_debugOut (t : Int) : (s.setPc t).debugOut = s.debugOut := rfl
@[simp] theorem setPc_draws (t : Int) : (s.setPc t).draws = s.draws := rfl
@[simp] theorem setPc_getX (t : Int) (q : Byte) : (s.setPc t).getX q = s.getX q := rfl
@[simp] theorem setPc_getC (t : Int) (q : Byte) : (s.setPc t).getC q = s.getC q := rfl

@[simp] theorem advance_x (n : Nat) : (s.advance n).x = s.x := rfl
@[simp] theorem advance_v (n : Nat) : (s.advance n).v = s.v := rfl
@[simp] theorem advance_pc (n : Nat) : (s.advance n).pc = s.pc + n := rfl
@[simp] theorem advance_halted (n : Nat) : (s.advance n).halted = s.halted := rfl
@[simp] theorem advance_cycles (n : Nat) : (s.advance n).cycles = s.cycles := rfl
@[simp] theorem advance_flags (n : Nat) : (s.advance n).flags = s.flags := rfl
@[simp] theorem advance_conf (n : Nat) : (s.advance n).conf = s.conf := rfl
@[simp] theorem advance_cacc (n : Nat) : (s.advance n).cacc = s.cacc := rfl
@[simp] theorem advance_mem (n : Nat) : (s.advance n).mem = s.mem := rfl
@[simp] theorem advance_heap (n : Nat) : (s.advance n).heap = s.heap := rfl
@[simp] theorem advance_regions (n : Nat) : (s.advance n).regions = s.regions := rfl
@[simp] theorem advance_seed (n : Nat) : (s.advance n).seed = s.seed := rfl
@[simp] theorem advance_code (n : Nat) : (s.advance n).code = s.code := rfl
@[simp] theorem advance_params (n : Nat) : (s.advance n).params = s.params := rfl
@[simp] theorem advance_debugOut (n : Nat) : (s.advance n).debugOut = s.debugOut := rfl
@[simp] theorem advance_draws (n : Nat) : (s.advance n).draws = s.draws := rfl
@[simp] theorem advance_getX (n : Nat) (q : Byte) : (s.advance n).getX q = s.getX q := rfl
@[simp] theorem advance_getC (n : Nat) (q : Byte) : (s.advance n).getC q = s.getC q := rfl

@[simp] theorem jumpBy_x (n : Nat) (k : Int) : (s.jumpBy n k).x = s.x := rfl
@[simp] theorem jumpBy_v (n : Nat) (k : Int) : (s.jumpBy n k).v = s.v := rfl
@[simp] theorem jumpBy_pc (n : Nat) (k : Int) : (s.jumpBy n k).pc = s.pc + n + k := rfl
@[simp] theorem jumpBy_halted (n : Nat) (k : Int) : (s.jumpBy n k).halted = s.halted := rfl
@[simp] theorem jumpBy_cycles (n : Nat) (k : Int) : (s.jumpBy n k).cycles = s.cycles := rfl
@[simp] theorem jumpBy_flags (n : Nat) (k : Int) : (s.jumpBy n k).flags = s.flags := rfl
@[simp] theorem jumpBy_conf (n : Nat) (k : Int) : (s.jumpBy n k).conf = s.conf := rfl
@[simp] theorem jumpBy_cacc (n : Nat) (k : Int) : (s.jumpBy n k).cacc = s.cacc := rfl
@[simp] theorem jumpBy_mem (n : Nat) (k : Int) : (s.jumpBy n k).mem = s.mem := rfl
@[simp] theorem jumpBy_heap (n : Nat) (k : Int) : (s.jumpBy n k).heap = s.heap := rfl
@[simp] theorem jumpBy_regions (n : Nat) (k : Int) : (s.jumpBy n k).regions = s.regions := rfl
@[simp] theorem jumpBy_seed (n : Nat) (k : Int) : (s.jumpBy n k).seed = s.seed := rfl
@[simp] theorem jumpBy_code (n : Nat) (k : Int) : (s.jumpBy n k).code = s.code := rfl
@[simp] theorem jumpBy_params (n : Nat) (k : Int) : (s.jumpBy n k).params = s.params := rfl
@[simp] theorem jumpBy_debugOut (n : Nat) (k : Int) : (s.jumpBy n k).debugOut = s.debugOut := rfl
@[simp] theorem jumpBy_draws (n : Nat) (k : Int) : (s.jumpBy n k).draws = s.draws := rfl
@[simp] theorem jumpBy_getX (n : Nat) (k : Int) (q : Byte) : (s.jumpBy n k).getX q = s.getX q := rfl
@[simp] theorem jumpBy_getC (n : Nat) (k : Int) (q : Byte) : (s.jumpBy n k).getC q = s.getC q := rfl

@[simp] theorem tick_x : s.tick.x = s.x := rfl
@[simp] theorem tick_v : s.tick.v = s.v := rfl
@[simp] theorem tick_pc : s.tick.pc = s.pc := rfl
@[simp] theorem tick_halted : s.tick.halted = s.halted := rfl
@[simp] theorem tick_cycles : s.tick.cycles = s.cycles + 1 := rfl
@[simp] theorem tick_flags : s.tick.flags = s.flags := rfl
@[simp] theorem tick_conf : s.tick.conf = s.conf := rfl
@[simp] theorem tick_cacc : s.tick.cacc = s.cacc := rfl
@[simp] theorem tick_mem : s.tick.mem = s.mem := rfl
@[simp] theorem tick_heap : s.tick.heap = s.heap := rfl
@[simp] theorem tick_regions : s.tick.regions = s.regions := rfl
@[simp] theorem tick_seed : s.tick.seed = s.seed := rfl
@[simp] theorem tick_code : s.tick.code = s.code := rfl
@[simp] theorem tick_params : s.tick.params = s.params := rfl
@[simp] theorem tick_debugOut : s.tick.debugOut = s.debugOut := rfl
@[simp] theorem tick_draws : s.tick.draws = s.draws := rfl
@[simp] theorem tick_getX (q : Byte) : s.tick.getX q = s.getX q := rfl
@[simp] theorem tick_getC (q : Byte) : s.tick.getC q = s.getC q := rfl

@[simp] theorem setFlagsZS_x (w : Word) : (s.setFlagsZS w).x = s.x := rfl
@[simp] theorem setFlagsZS_v (w : Word) : (s.setFlagsZS w).v = s.v := rfl
@[simp] theorem setFlagsZS_pc (w : Word) : (s.setFlagsZS w).pc = s.pc := rfl
@[simp] theorem setFlagsZS_halted (w : Word) : (s.setFlagsZS w).halted = s.halted := rfl
@[simp] theorem setFlagsZS_cycles (w : Word) : (s.setFlagsZS w).cycles = s.cycles := rfl
@[simp] theorem setFlagsZS_flags (w : Word) : (s.setFlagsZS w).flags =
    ⟨zeroFlag w, signFlag w, Config.anyC s.draws, Config.anyO s.draws⟩ := rfl
@[simp] theorem setFlagsZS_conf (w : Word) : (s.setFlagsZS w).conf = s.conf := rfl
@[simp] theorem setFlagsZS_cacc (w : Word) : (s.setFlagsZS w).cacc = s.cacc := rfl
@[simp] theorem setFlagsZS_mem (w : Word) : (s.setFlagsZS w).mem = s.mem := rfl
@[simp] theorem setFlagsZS_heap (w : Word) : (s.setFlagsZS w).heap = s.heap := rfl
@[simp] theorem setFlagsZS_regions (w : Word) : (s.setFlagsZS w).regions = s.regions := rfl
@[simp] theorem setFlagsZS_seed (w : Word) : (s.setFlagsZS w).seed = s.seed := rfl
@[simp] theorem setFlagsZS_code (w : Word) : (s.setFlagsZS w).code = s.code := rfl
@[simp] theorem setFlagsZS_params (w : Word) : (s.setFlagsZS w).params = s.params := rfl
@[simp] theorem setFlagsZS_debugOut (w : Word) : (s.setFlagsZS w).debugOut = s.debugOut := rfl
@[simp] theorem setFlagsZS_draws (w : Word) : (s.setFlagsZS w).draws = s.draws + 1 := rfl
@[simp] theorem setFlagsZS_getX (w : Word) (q : Byte) : (s.setFlagsZS w).getX q = s.getX q := rfl
@[simp] theorem setFlagsZS_getC (w : Word) (q : Byte) : (s.setFlagsZS w).getC q = s.getC q := rfl

@[simp] theorem flagsAny_x : s.flagsAny.x = s.x := rfl
@[simp] theorem flagsAny_v : s.flagsAny.v = s.v := rfl
@[simp] theorem flagsAny_pc : s.flagsAny.pc = s.pc := rfl
@[simp] theorem flagsAny_halted : s.flagsAny.halted = s.halted := rfl
@[simp] theorem flagsAny_cycles : s.flagsAny.cycles = s.cycles := rfl
@[simp] theorem flagsAny_flags : s.flagsAny.flags =
    ⟨Config.anyZ s.draws, Config.anyS s.draws, Config.anyC s.draws, Config.anyO s.draws⟩ := rfl
@[simp] theorem flagsAny_conf : s.flagsAny.conf = s.conf := rfl
@[simp] theorem flagsAny_cacc : s.flagsAny.cacc = s.cacc := rfl
@[simp] theorem flagsAny_mem : s.flagsAny.mem = s.mem := rfl
@[simp] theorem flagsAny_heap : s.flagsAny.heap = s.heap := rfl
@[simp] theorem flagsAny_regions : s.flagsAny.regions = s.regions := rfl
@[simp] theorem flagsAny_seed : s.flagsAny.seed = s.seed := rfl
@[simp] theorem flagsAny_code : s.flagsAny.code = s.code := rfl
@[simp] theorem flagsAny_params : s.flagsAny.params = s.params := rfl
@[simp] theorem flagsAny_debugOut : s.flagsAny.debugOut = s.debugOut := rfl
@[simp] theorem flagsAny_draws : s.flagsAny.draws = s.draws + 1 := rfl
@[simp] theorem flagsAny_getX (q : Byte) : s.flagsAny.getX q = s.getX q := rfl
@[simp] theorem flagsAny_getC (q : Byte) : s.flagsAny.getC q = s.getC q := rfl

@[simp] theorem setFlagZ_x (w : Word) : (s.setFlagZ w).x = s.x := rfl
@[simp] theorem setFlagZ_v (w : Word) : (s.setFlagZ w).v = s.v := rfl
@[simp] theorem setFlagZ_pc (w : Word) : (s.setFlagZ w).pc = s.pc := rfl
@[simp] theorem setFlagZ_halted (w : Word) : (s.setFlagZ w).halted = s.halted := rfl
@[simp] theorem setFlagZ_cycles (w : Word) : (s.setFlagZ w).cycles = s.cycles := rfl
@[simp] theorem setFlagZ_flags (w : Word) : (s.setFlagZ w).flags = { s.flags with z := zeroFlag w } := rfl
@[simp] theorem setFlagZ_conf (w : Word) : (s.setFlagZ w).conf = s.conf := rfl
@[simp] theorem setFlagZ_cacc (w : Word) : (s.setFlagZ w).cacc = s.cacc := rfl
@[simp] theorem setFlagZ_mem (w : Word) : (s.setFlagZ w).mem = s.mem := rfl
@[simp] theorem setFlagZ_heap (w : Word) : (s.setFlagZ w).heap = s.heap := rfl
@[simp] theorem setFlagZ_regions (w : Word) : (s.setFlagZ w).regions = s.regions := rfl
@[simp] theorem setFlagZ_seed (w : Word) : (s.setFlagZ w).seed = s.seed := rfl
@[simp] theorem setFlagZ_code (w : Word) : (s.setFlagZ w).code = s.code := rfl
@[simp] theorem setFlagZ_params (w : Word) : (s.setFlagZ w).params = s.params := rfl
@[simp] theorem setFlagZ_debugOut (w : Word) : (s.setFlagZ w).debugOut = s.debugOut := rfl
@[simp] theorem setFlagZ_draws (w : Word) : (s.setFlagZ w).draws = s.draws := rfl
@[simp] theorem setFlagZ_getX (w : Word) (q : Byte) : (s.setFlagZ w).getX q = s.getX q := rfl
@[simp] theorem setFlagZ_getC (w : Word) (q : Byte) : (s.setFlagZ w).getC q = s.getC q := rfl

@[simp] theorem setFlagsZAndS_x (w : Word) : (s.setFlagsZAndS w).x = s.x := rfl
@[simp] theorem setFlagsZAndS_v (w : Word) : (s.setFlagsZAndS w).v = s.v := rfl
@[simp] theorem setFlagsZAndS_pc (w : Word) : (s.setFlagsZAndS w).pc = s.pc := rfl
@[simp] theorem setFlagsZAndS_halted (w : Word) : (s.setFlagsZAndS w).halted = s.halted := rfl
@[simp] theorem setFlagsZAndS_cycles (w : Word) : (s.setFlagsZAndS w).cycles = s.cycles := rfl
@[simp] theorem setFlagsZAndS_flags (w : Word) : (s.setFlagsZAndS w).flags =
    { s.flags with z := zeroFlag w, s := signFlag w } := rfl
@[simp] theorem setFlagsZAndS_conf (w : Word) : (s.setFlagsZAndS w).conf = s.conf := rfl
@[simp] theorem setFlagsZAndS_cacc (w : Word) : (s.setFlagsZAndS w).cacc = s.cacc := rfl
@[simp] theorem setFlagsZAndS_mem (w : Word) : (s.setFlagsZAndS w).mem = s.mem := rfl
@[simp] theorem setFlagsZAndS_heap (w : Word) : (s.setFlagsZAndS w).heap = s.heap := rfl
@[simp] theorem setFlagsZAndS_regions (w : Word) : (s.setFlagsZAndS w).regions = s.regions := rfl
@[simp] theorem setFlagsZAndS_seed (w : Word) : (s.setFlagsZAndS w).seed = s.seed := rfl
@[simp] theorem setFlagsZAndS_code (w : Word) : (s.setFlagsZAndS w).code = s.code := rfl
@[simp] theorem setFlagsZAndS_params (w : Word) : (s.setFlagsZAndS w).params = s.params := rfl
@[simp] theorem setFlagsZAndS_debugOut (w : Word) : (s.setFlagsZAndS w).debugOut = s.debugOut := rfl
@[simp] theorem setFlagsZAndS_draws (w : Word) : (s.setFlagsZAndS w).draws = s.draws := rfl
@[simp] theorem setFlagsZAndS_getX (w : Word) (q : Byte) : (s.setFlagsZAndS w).getX q = s.getX q := rfl
@[simp] theorem setFlagsZAndS_getC (w : Word) (q : Byte) : (s.setFlagsZAndS w).getC q = s.getC q := rfl

@[simp] theorem flagZAny_x : s.flagZAny.x = s.x := rfl
@[simp] theorem flagZAny_v : s.flagZAny.v = s.v := rfl
@[simp] theorem flagZAny_pc : s.flagZAny.pc = s.pc := rfl
@[simp] theorem flagZAny_halted : s.flagZAny.halted = s.halted := rfl
@[simp] theorem flagZAny_cycles : s.flagZAny.cycles = s.cycles := rfl
@[simp] theorem flagZAny_flags : s.flagZAny.flags = { s.flags with z := Config.anyZ s.draws } := rfl
@[simp] theorem flagZAny_conf : s.flagZAny.conf = s.conf := rfl
@[simp] theorem flagZAny_cacc : s.flagZAny.cacc = s.cacc := rfl
@[simp] theorem flagZAny_mem : s.flagZAny.mem = s.mem := rfl
@[simp] theorem flagZAny_heap : s.flagZAny.heap = s.heap := rfl
@[simp] theorem flagZAny_regions : s.flagZAny.regions = s.regions := rfl
@[simp] theorem flagZAny_seed : s.flagZAny.seed = s.seed := rfl
@[simp] theorem flagZAny_code : s.flagZAny.code = s.code := rfl
@[simp] theorem flagZAny_params : s.flagZAny.params = s.params := rfl
@[simp] theorem flagZAny_debugOut : s.flagZAny.debugOut = s.debugOut := rfl
@[simp] theorem flagZAny_draws : s.flagZAny.draws = s.draws + 1 := rfl
@[simp] theorem flagZAny_getX (q : Byte) : s.flagZAny.getX q = s.getX q := rfl
@[simp] theorem flagZAny_getC (q : Byte) : s.flagZAny.getC q = s.getC q := rfl

@[simp] theorem setFlagZFloat_x (w : Word) : (s.setFlagZFloat w).x = s.x := rfl
@[simp] theorem setFlagZFloat_v (w : Word) : (s.setFlagZFloat w).v = s.v := rfl
@[simp] theorem setFlagZFloat_pc (w : Word) : (s.setFlagZFloat w).pc = s.pc := rfl
@[simp] theorem setFlagZFloat_halted (w : Word) : (s.setFlagZFloat w).halted = s.halted := rfl
@[simp] theorem setFlagZFloat_cycles (w : Word) : (s.setFlagZFloat w).cycles = s.cycles := rfl
@[simp] theorem setFlagZFloat_conf (w : Word) : (s.setFlagZFloat w).conf = s.conf := rfl
@[simp] theorem setFlagZFloat_cacc (w : Word) : (s.setFlagZFloat w).cacc = s.cacc := rfl
@[simp] theorem setFlagZFloat_mem (w : Word) : (s.setFlagZFloat w).mem = s.mem := rfl
@[simp] theorem setFlagZFloat_heap (w : Word) : (s.setFlagZFloat w).heap = s.heap := rfl
@[simp] theorem setFlagZFloat_regions (w : Word) : (s.setFlagZFloat w).regions = s.regions := rfl
@[simp] theorem setFlagZFloat_seed (w : Word) : (s.setFlagZFloat w).seed = s.seed := rfl
@[simp] theorem setFlagZFloat_code (w : Word) : (s.setFlagZFloat w).code = s.code := rfl
@[simp] theorem setFlagZFloat_params (w : Word) : (s.setFlagZFloat w).params = s.params := rfl
@[simp] theorem setFlagZFloat_debugOut (w : Word) : (s.setFlagZFloat w).debugOut = s.debugOut := rfl
@[simp] theorem setFlagZFloat_flags (w : Word) :
    (s.setFlagZFloat w).flags = { s.flags with z := if w = 0x80000000 then Config.anyZ s.draws else zeroFlag w } := rfl
@[simp] theorem setFlagZFloat_draws (w : Word) :
    (s.setFlagZFloat w).draws = if w = 0x80000000 then s.draws + 1 else s.draws := rfl
@[simp] theorem setFlagZFloat_getX (w : Word) (q : Byte) : (s.setFlagZFloat w).getX q = s.getX q := rfl
@[simp] theorem setFlagZFloat_getC (w : Word) (q : Byte) : (s.setFlagZFloat w).getC q = s.getC q := rfl

@[simp] theorem clearFlags_x (m : Byte) : (s.clearFlags m).x = s.x := rfl
@[simp] theorem clearFlags_v (m : Byte) : (s.clearFlags m).v = s.v := rfl
@[simp] theorem clearFlags_pc (m : Byte) : (s.clearFlags m).pc = s.pc := rfl
@[simp] theorem clearFlags_halted (m : Byte) : (s.clearFlags m).halted = s.halted := rfl
@[simp] theorem clearFlags_cycles (m : Byte) : (s.clearFlags m).cycles = s.cycles := rfl
@[simp] theorem clearFlags_flags (m : Byte) : (s.clearFlags m).flags = clearedFlags s.params.flagBit m s.flags := rfl
@[simp] theorem clearFlags_conf (m : Byte) : (s.clearFlags m).conf = s.conf := rfl
@[simp] theorem clearFlags_cacc (m : Byte) : (s.clearFlags m).cacc = s.cacc := rfl
@[simp] theorem clearFlags_mem (m : Byte) : (s.clearFlags m).mem = s.mem := rfl
@[simp] theorem clearFlags_heap (m : Byte) : (s.clearFlags m).heap = s.heap := rfl
@[simp] theorem clearFlags_regions (m : Byte) : (s.clearFlags m).regions = s.regions := rfl
@[simp] theorem clearFlags_seed (m : Byte) : (s.clearFlags m).seed = s.seed := rfl
@[simp] theorem clearFlags_code (m : Byte) : (s.clearFlags m).code = s.code := rfl
@[simp] theorem clearFlags_params (m : Byte) : (s.clearFlags m).params = s.params := rfl
@[simp] theorem clearFlags_debugOut (m : Byte) : (s.clearFlags m).debugOut = s.debugOut := rfl
@[simp] theorem clearFlags_draws (m : Byte) : (s.clearFlags m).draws = s.draws := rfl
@[simp] theorem clearFlags_getX (m : Byte) (q : Byte) : (s.clearFlags m).getX q = s.getX q := rfl
@[simp] theorem clearFlags_getC (m : Byte) (q : Byte) : (s.clearFlags m).getC q = s.getC q := rfl

@[simp] theorem confAny_x : s.confAny.x = s.x := by unfold confAny; rfl
@[simp] theorem confAny_v : s.confAny.v = s.v := by unfold confAny; rfl
@[simp] theorem confAny_pc : s.confAny.pc = s.pc := by unfold confAny; rfl
@[simp] theorem confAny_halted : s.confAny.halted = s.halted := by unfold confAny; rfl
@[simp] theorem confAny_cycles : s.confAny.cycles = s.cycles := by unfold confAny; rfl
@[simp] theorem confAny_flags : s.confAny.flags = s.flags := by unfold confAny; rfl
@[simp] theorem confAny_conf : s.confAny.conf = Conf.drawnCells s.draws := by unfold confAny; rfl
@[simp] theorem confAny_cacc : s.confAny.cacc = Conf.drawn s.draws 64 := by unfold confAny; rfl
@[simp] theorem confAny_mem : s.confAny.mem = s.mem := by unfold confAny; rfl
@[simp] theorem confAny_heap : s.confAny.heap = s.heap := by unfold confAny; rfl
@[simp] theorem confAny_regions : s.confAny.regions = s.regions := by unfold confAny; rfl
@[simp] theorem confAny_seed : s.confAny.seed = s.seed := by unfold confAny; rfl
@[simp] theorem confAny_code : s.confAny.code = s.code := by unfold confAny; rfl
@[simp] theorem confAny_params : s.confAny.params = s.params := by unfold confAny; rfl
@[simp] theorem confAny_debugOut : s.confAny.debugOut = s.debugOut := by unfold confAny; rfl
@[simp] theorem confAny_draws : s.confAny.draws = s.draws + 1 := by unfold confAny; rfl
@[simp] theorem confAny_getX (q : Byte) : s.confAny.getX q = s.getX q := by simp [getX]

end State

end Sys2Proof.Machine
end

