-- ==== Sys2Proof/Laws/Operands.lean ====
section
/-! SUPPORT. Registers and confidence cells after a write, and one lemma for each shared operation that can stop: what holds
where it answers a next state, and when it goes on. -/

namespace Sys2Proof.Machine

/-! ### Registers -/

theorem readX_zero (x : Vector Word 48) : readX x 0 = 0 := by simp [readX]

@[simp] theorem State.getX_zero (s : State) : s.getX 0 = 0 := readX_zero s.x

theorem readX_writeX_ne (x : Vector Word 48) {r q : Byte} (h : q ≠ r) (w : Word) :
    readX (writeX x r w) q = readX x q := by
  have hn : r.toNat ≠ q.toNat := fun e => h (BitVec.eq_of_toNat_eq e.symm)
  unfold readX writeX
  by_cases h1 : q.toNat < 48 <;> by_cases h2 : r.toNat < 48 <;> by_cases h3 : r = 0#8 <;>
    simp [h1, h2, h3, hn]

theorem readX_writeX_self (x : Vector Word 48) {r : Byte} (h : r.toNat < 48) (w : Word) :
    readX (writeX x r w) r = if r = 0 then 0 else w := by
  unfold readX writeX
  simp only [h, dite_true]
  split <;> simp

/-- A write leaves every other register alone (10_state.md R32). -/
@[simp] theorem State.getX_setX_ne (s : State) {r q : Byte} (h : q ≠ r) (w : Word) :
    (s.setX r w).getX q = s.getX q := readX_writeX_ne s.x h w

/-- What the register written reads as (10_state.md R32). -/
theorem State.getX_setX_self (s : State) {r : Byte} (h : r.toNat < 48) (w : Word) :
    (s.setX r w).getX r = if r = 0 then 0 else w := readX_writeX_self s.x h w

/-- No write reaches the cell of R0 (10_state.md R32). -/
@[simp] theorem State.setX_zero_cell (s : State) (r : Byte) (w : Word) : (s.setX r w).x[0] = s.x[0] := by
  simp only [State.setX_x, writeX]
  split
  · split
    · rfl
    · rename_i h0
      have hn : r.toNat ≠ 0 := fun e => h0 (BitVec.eq_of_toNat_eq (by simpa using e))
      simp [hn]
  · rfl

/-- A write leaves every other confidence cell alone. -/
@[simp] theorem State.getC_setC_ne (s : State) {r q : Byte} (h : q ≠ r) (k : Conf) :
    (s.setC r k).getC q = s.getC q := by
  have hn : r.toNat ≠ q.toNat := fun e => h (BitVec.eq_of_toNat_eq e.symm)
  unfold State.getC State.setC readC writeC
  dsimp only
  by_cases h1 : q.toNat < 64 <;> by_cases h2 : r.toNat < 64 <;> simp [h1, h2, hn]

/-- What the confidence cell written reads as; the cell of R0 is an ordinary one (10_state.md R60). -/
theorem State.getC_setC_self (s : State) {r : Byte} (h : r.toNat < 64) (k : Conf) : (s.setC r k).getC r = k := by
  unfold State.getC State.setC readC writeC
  simp [h]

/-! ### Validation of register bytes -/

theorem regRefusal_none_iff {s : State} {rs : List Byte} :
    regRefusal s.params.nreg rs = none ↔ Regs32 s rs := by
  unfold regRefusal someOutOfRange someVector Regs32
  constructor
  · intro h
    split at h
    · cases h
    · split at h
      · cases h
      · rename_i h1 h2
        simp only [List.any_eq_true, decide_eq_true_eq, not_exists, not_and, Nat.not_le] at h1 h2
        exact fun r hr => ⟨h1 r hr, h2 r hr⟩
  · intro h
    rw [if_neg, if_neg]
    · simp only [List.any_eq_true, decide_eq_true_eq, not_exists, not_and, Nat.not_le]
      exact fun r hr => (h r hr).2
    · simp only [List.any_eq_true, decide_eq_true_eq, not_exists, not_and, Nat.not_le]
      exact fun r hr => (h r hr).1

/-- Valid operands go on. -/
theorem withRegs_of {s : State} {rs : List Byte} (h : Regs32 s rs) (k : Result) : withRegs s rs k = k := by
  rw [withRegs, regRefusal_none_iff.mpr h]

theorem withRegs_next {s t : State} {rs : List Byte} {k : Result} (h : withRegs s rs k = .next t) :
    Regs32 s rs ∧ k = .next t := by
  unfold withRegs at h
  split at h
  · simp [refuse] at h
  · rename_i hr; exact ⟨regRefusal_none_iff.mp hr, h⟩

/-- A byte that names a register goes on. -/
theorem withCell_of {s : State} {r : Byte} (h : NamesCell s r) (k : Result) : withCell s r k = k := by
  have h' : r.toNat < s.params.nreg.count := h
  simp [withCell, someOutOfRange, Nat.not_le.mpr h']

theorem withCell_next {s t : State} {r : Byte} {k : Result} (h : withCell s r k = .next t) :
    NamesCell s r ∧ k = .next t := by
  unfold withCell at h
  split at h
  · simp [refuse] at h
  · rename_i hr
    simp [someOutOfRange] at hr
    exact ⟨hr, h⟩

/-! ### Accesses -/

theorem withLoad_next {s t : State} {a : Int} {k : Word → Result} (h : withLoad s a k = .next t) :
    0 ≤ a ∧ a + 4 ≤ Config.memSize ∧ k (s.mem.word a.toNat) = .next t := by
  unfold withLoad at h
  split at h
  · rename_i v hv
    obtain ⟨h0, h4, rfl⟩ := load32_some hv
    exact ⟨h0, h4, h⟩
  · simp [raise] at h

theorem withLoad_of {s : State} {a : Int} (h : inBounds a 4 = true) (k : Word → Result) :
    withLoad s a k = k (s.mem.word a.toNat) := by
  simp [withLoad, Memory.load32, h]

theorem withStore_next {s t : State} {a : Int} {v : Word} {k : State → Result} (h : withStore s a v k = .next t) :
    0 ≤ a ∧ a + 4 ≤ Config.memSize ∧ k (s.setMem (s.mem.setBytes a.toNat (wordBytes v))) = .next t := by
  unfold withStore at h
  split at h
  · rename_i m hm
    obtain ⟨h0, h4, rfl⟩ := store32_some hm
    exact ⟨h0, h4, h⟩
  · simp [raise] at h

theorem withStore_of {s : State} {a : Int} (h : inBounds a 4 = true) (v : Word) (k : State → Result) :
    withStore s a v k = k (s.setMem (s.mem.setBytes a.toNat (wordBytes v))) := by
  simp [withStore, Memory.store32, h]

theorem withRange_next {t : State} {a : Int} {n : Nat} {k : Result} (h : withRange a n k = .next t) :
    0 ≤ a ∧ a + n ≤ Config.memSize ∧ k = .next t := by
  unfold withRange at h
  split at h
  · rename_i hb; rw [inBounds_iff] at hb; exact ⟨hb.1, hb.2, h⟩
  · simp [raise] at h

theorem withPush_next {s t : State} {v : Word} {k : State → Result} (h : withPush s v k = .next t) :
    u32 s.pushAddr + 4 ≤ Config.memSize ∧
      k ((s.setMem (s.mem.setBytes (u32 s.pushAddr) (wordBytes v))).setX spReg s.pushAddr) = .next t := by
  obtain ⟨_, h4, hk⟩ := withStore_next h
  exact ⟨by exact_mod_cast h4, by simpa using hk⟩

theorem withPop_next {s t : State} {k : Word → State → Result} (h : withPop s k = .next t) :
    u32 s.sp + 4 ≤ Config.memSize ∧ k (s.mem.word (u32 s.sp)) (s.setX spReg (s.sp + 4)) = .next t := by
  obtain ⟨_, h4, hk⟩ := withLoad_next h
  exact ⟨by exact_mod_cast h4, by simpa using hk⟩

/-! ### Conditions on operands -/

theorem withAgreedImm16_next {t : State} {i : Half} {k : Nat → Result} (h : withAgreedImm16 i k = .next t) :
    i.toNat < 0x8000 ∧ k i.toNat = .next t := by
  unfold withAgreedImm16 at h
  split at h
  · simp [refuse] at h
  · exact ⟨by omega, h⟩

theorem withAgreedImm16_of {i : Half} (h : i.toNat < 0x8000) (k : Nat → Result) :
    withAgreedImm16 i k = k i.toNat := by
  rw [withAgreedImm16, if_neg (by omega)]

theorem withShiftCount_next {t : State} {i : Byte} {k : Nat → Result} (h : withShiftCount i k = .next t) :
    i.toNat ≤ 63 ∧ k i.toNat = .next t := by
  unfold withShiftCount at h
  split at h
  · simp [refuse] at h
  · exact ⟨by omega, h⟩

theorem withShiftCount_of {i : Byte} (h : i.toNat ≤ 63) (k : Nat → Result) : withShiftCount i k = k i.toNat := by
  rw [withShiftCount, if_neg (by omega)]

theorem withDivisor_next {s t : State} {r : Byte} {k : Result} (h : withDivisor s r k = .next t) :
    s32 (s.getX r) ≠ 0 ∧ k = .next t := by
  unfold withDivisor at h
  split at h
  · simp [raise] at h
  · exact ⟨‹_›, h⟩

theorem withFloatDivisor_next {s t : State} {r : Byte} {k : Result} (h : withFloatDivisor s r k = .next t) :
    Fnum.isZero (s.getX r) = false ∧ k = .next t := by
  unfold withFloatDivisor at h
  split at h
  · simp [raise] at h
  · rename_i hz; exact ⟨by simpa using hz, h⟩

/-! ### Endings and shapes -/

@[simp] theorem finish_eq (s : State) (n : Nat) : finish s n = .next (s.advance n) := rfl
@[simp] theorem finishZS_eq (s : State) (rd : Byte) (r : Word) (n : Nat) :
    finishZS s rd r n = .next (((s.setX rd r).setFlagsZS r).advance n) := rfl
@[simp] theorem finishAny_eq (s : State) (rd : Byte) (r : Word) (n : Nat) :
    finishAny s rd r n = .next ((s.setX rd r).flagsAny.advance n) := rfl
@[simp] theorem finishX_eq (s : State) (rd : Byte) (r : Word) (n : Nat) :
    finishX s rd r n = .next ((s.setX rd r).advance n) := rfl
@[simp] theorem finishZ_eq (s : State) (rd : Byte) (r : Word) (n : Nat) :
    finishZ s rd r n = .next (((s.setX rd r).setFlagZ r).advance n) := rfl
@[simp] theorem finishZAndS_eq (s : State) (rd : Byte) (r : Word) (n : Nat) :
    finishZAndS s rd r n = .next (((s.setX rd r).setFlagsZAndS r).advance n) := rfl
@[simp] theorem finishZFloat_eq (s : State) (rd : Byte) (r : Word) (n : Nat) :
    finishZFloat s rd r n = .next (((s.setX rd r).setFlagZFloat r).advance n) := rfl

theorem finishBranch_next {s t : State} {n : Nat} {taken : Bool} {r : Byte}
    (h : finishBranch s n taken r = .next t) :
    t = s.setPc (if taken then s.npc n + s32 (s.getX r) else s.npc n) := by
  cases taken <;> simp [finishBranch] at h <;> exact h.symm

theorem skipNext_next {s t : State} {n : Nat} (h : skipNext s n = .next t) :
    ∃ op rest l, s.codeFrom (s.npc n) = op :: rest ∧ opLength op = some l ∧ t = s.setPc (s.npc n + l) := by
  unfold skipNext at h
  split at h
  · simp [raise] at h
  · rename_i op rest hc
    split at h
    · simp [refuse] at h
    · rename_i l hl
      exact ⟨op, rest, l, hc, hl, by simpa using h.symm⟩

theorem copyBytes_next {s t : State} {d a : Int} {n : Nat} (h : copyBytes s d a n = .next t) :
    (n = 0 ∧ t = s.advance 5) ∨
      (0 < n ∧ 0 ≤ d ∧ d + n ≤ Config.memSize ∧ 0 ≤ a ∧ a + n ≤ Config.memSize ∧ ¬ (a < d ∧ d < a + n) ∧
        t = (s.setMem (s.mem.copyUp d.toNat a.toNat n)).advance 5) := by
  unfold copyBytes at h
  split at h
  · exact .inl ⟨‹_›, by simpa using h.symm⟩
  · obtain ⟨h0, h1, h⟩ := withRange_next h
    obtain ⟨h2, h3, h⟩ := withRange_next h
    split at h
    · simp [refuse] at h
    · exact .inr ⟨by omega, h0, h1, h2, h3, ‹_›, by simpa using h.symm⟩

theorem fillBytes_next {s t : State} {d : Int} {v : Word} {n : Nat} (h : fillBytes s d v n = .next t) :
    u32 v ≤ 255 ∧ ((n = 0 ∧ t = s.advance 5) ∨
      (0 < n ∧ 0 ≤ d ∧ d + n ≤ Config.memSize ∧
        t = (s.setMem (s.mem.fill d.toNat (v.setWidth 8) n)).advance 5)) := by
  unfold fillBytes at h
  split at h
  · simp [refuse] at h
  · refine ⟨by omega, ?_⟩
    split at h
    · exact .inl ⟨‹_›, by simpa using h.symm⟩
    · obtain ⟨h0, h1, h⟩ := withRange_next h
      exact .inr ⟨by omega, h0, h1, by simpa using h.symm⟩

end Sys2Proof.Machine
end

