-- ==== Sys2Proof/Laws/PerInstr.lean ====
section
/-! SUPPORT. Laws stated per instruction, one lemma for each constructor of Instr. -/

namespace Sys2Proof.Laws

/-- The length the opcode map gives an instruction's opcode byte is the length of its encoding; a reserved slot or ILLEGAL is
encoded by its opcode byte alone (spec/30_encoding.md R122, R150). -/
def EncodedLength.Statement (i : Instr) : Prop :=
  ∀ o, ∃ op operands, encode o i = op :: operands ∧ (opLength op).getD 1 = operands.length + 1

theorem EncodedLength.halt :
    EncodedLength.Statement (.halt) := fun _ => ⟨_, _, rfl, rfl⟩
theorem EncodedLength.nop :
    EncodedLength.Statement (.nop) := fun _ => ⟨_, _, rfl, rfl⟩
theorem EncodedLength.ret :
    EncodedLength.Statement (.ret) := fun _ => ⟨_, _, rfl, rfl⟩
theorem EncodedLength.iret :
    EncodedLength.Statement (.iret) := fun _ => ⟨_, _, rfl, rfl⟩
theorem EncodedLength.brk :
    EncodedLength.Statement (.brk) := fun _ => ⟨_, _, rfl, rfl⟩
theorem EncodedLength.wfi :
    EncodedLength.Statement (.wfi) := fun _ => ⟨_, _, rfl, rfl⟩
theorem EncodedLength.reset :
    EncodedLength.Statement (.reset) := fun _ => ⟨_, _, rfl, rfl⟩
theorem EncodedLength.syn :
    EncodedLength.Statement (.syn) := fun _ => ⟨_, _, rfl, rfl⟩
theorem EncodedLength.inc (rd : Byte) :
    EncodedLength.Statement (.inc rd) := fun _ => ⟨_, _, rfl, rfl⟩
theorem EncodedLength.dec (rd : Byte) :
    EncodedLength.Statement (.dec rd) := fun _ => ⟨_, _, rfl, rfl⟩
theorem EncodedLength.not (rd : Byte) :
    EncodedLength.Statement (.not rd) := fun _ => ⟨_, _, rfl, rfl⟩
theorem EncodedLength.neg (rd : Byte) :
    EncodedLength.Statement (.neg rd) := fun _ => ⟨_, _, rfl, rfl⟩
theorem EncodedLength.push (rd : Byte) :
    EncodedLength.Statement (.push rd) := fun _ => ⟨_, _, rfl, rfl⟩
theorem EncodedLength.pop (rd : Byte) :
    EncodedLength.Statement (.pop rd) := fun _ => ⟨_, _, rfl, rfl⟩
theorem EncodedLength.confLd (rd : Byte) :
    EncodedLength.Statement (.confLd rd) := fun _ => ⟨_, _, rfl, rfl⟩
theorem EncodedLength.confSt (rd : Byte) :
    EncodedLength.Statement (.confSt rd) := fun _ => ⟨_, _, rfl, rfl⟩
theorem EncodedLength.sys (imm8 : Byte) :
    EncodedLength.Statement (.sys imm8) := fun _ => ⟨_, _, rfl, rfl⟩
theorem EncodedLength.trap (imm8 : Byte) :
    EncodedLength.Statement (.trap imm8) := fun _ => ⟨_, _, rfl, rfl⟩
theorem EncodedLength.dbg (imm8 : Byte) :
    EncodedLength.Statement (.dbg imm8) := fun _ => ⟨_, _, rfl, rfl⟩
theorem EncodedLength.clf (imm8 : Byte) :
    EncodedLength.Statement (.clf imm8) := fun _ => ⟨_, _, rfl, rfl⟩
theorem EncodedLength.sema (imm8 : Byte) :
    EncodedLength.Statement (.sema imm8) := fun _ => ⟨_, _, rfl, rfl⟩
theorem EncodedLength.yield (imm8 : Byte) :
    EncodedLength.Statement (.yield imm8) := fun _ => ⟨_, _, rfl, rfl⟩
theorem EncodedLength.cache (imm8 : Byte) :
    EncodedLength.Statement (.cache imm8) := fun _ => ⟨_, _, rfl, rfl⟩
theorem EncodedLength.stripcf (imm8 : Byte) :
    EncodedLength.Statement (.stripcf imm8) := fun _ => ⟨_, _, rfl, rfl⟩
theorem EncodedLength.movi (rd imm8 : Byte) :
    EncodedLength.Statement (.movi rd imm8) := fun _ => ⟨_, _, rfl, rfl⟩
theorem EncodedLength.addi (rd imm8 : Byte) :
    EncodedLength.Statement (.addi rd imm8) := fun _ => ⟨_, _, rfl, rfl⟩
theorem EncodedLength.subi (rd imm8 : Byte) :
    EncodedLength.Statement (.subi rd imm8) := fun _ => ⟨_, _, rfl, rfl⟩
theorem EncodedLength.andi (rd imm8 : Byte) :
    EncodedLength.Statement (.andi rd imm8) := fun _ => ⟨_, _, rfl, rfl⟩
theorem EncodedLength.ori (rd imm8 : Byte) :
    EncodedLength.Statement (.ori rd imm8) := fun _ => ⟨_, _, rfl, rfl⟩
theorem EncodedLength.xori (rd imm8 : Byte) :
    EncodedLength.Statement (.xori rd imm8) := fun _ => ⟨_, _, rfl, rfl⟩
theorem EncodedLength.shli (rd imm8 : Byte) :
    EncodedLength.Statement (.shli rd imm8) := fun _ => ⟨_, _, rfl, rfl⟩
theorem EncodedLength.shri (rd imm8 : Byte) :
    EncodedLength.Statement (.shri rd imm8) := fun _ => ⟨_, _, rfl, rfl⟩
theorem EncodedLength.add (rd rs1 rs2 : Byte) :
    EncodedLength.Statement (.add rd rs1 rs2) := fun _ => ⟨_, _, rfl, rfl⟩
theorem EncodedLength.sub (rd rs1 rs2 : Byte) :
    EncodedLength.Statement (.sub rd rs1 rs2) := fun _ => ⟨_, _, rfl, rfl⟩
theorem EncodedLength.mul (rd rs1 rs2 : Byte) :
    EncodedLength.Statement (.mul rd rs1 rs2) := fun _ => ⟨_, _, rfl, rfl⟩
theorem EncodedLength.div (rd rs1 rs2 : Byte) :
    EncodedLength.Statement (.div rd rs1 rs2) := fun _ => ⟨_, _, rfl, rfl⟩
theorem EncodedLength.mod (rd rs1 rs2 : Byte) :
    EncodedLength.Statement (.mod rd rs1 rs2) := fun _ => ⟨_, _, rfl, rfl⟩
theorem EncodedLength.and (rd rs1 rs2 : Byte) :
    EncodedLength.Statement (.and rd rs1 rs2) := fun _ => ⟨_, _, rfl, rfl⟩
theorem EncodedLength.or (rd rs1 rs2 : Byte) :
    EncodedLength.Statement (.or rd rs1 rs2) := fun _ => ⟨_, _, rfl, rfl⟩
theorem EncodedLength.xor (rd rs1 rs2 : Byte) :
    EncodedLength.Statement (.xor rd rs1 rs2) := fun _ => ⟨_, _, rfl, rfl⟩
theorem EncodedLength.shl (rd rs1 rs2 : Byte) :
    EncodedLength.Statement (.shl rd rs1 rs2) := fun _ => ⟨_, _, rfl, rfl⟩
theorem EncodedLength.shr (rd rs1 rs2 : Byte) :
    EncodedLength.Statement (.shr rd rs1 rs2) := fun _ => ⟨_, _, rfl, rfl⟩
theorem EncodedLength.min (rd rs1 rs2 : Byte) :
    EncodedLength.Statement (.min rd rs1 rs2) := fun _ => ⟨_, _, rfl, rfl⟩
theorem EncodedLength.max (rd rs1 rs2 : Byte) :
    EncodedLength.Statement (.max rd rs1 rs2) := fun _ => ⟨_, _, rfl, rfl⟩
theorem EncodedLength.cmpEq (rd rs1 rs2 : Byte) :
    EncodedLength.Statement (.cmpEq rd rs1 rs2) := fun _ => ⟨_, _, rfl, rfl⟩
theorem EncodedLength.cmpLt (rd rs1 rs2 : Byte) :
    EncodedLength.Statement (.cmpLt rd rs1 rs2) := fun _ => ⟨_, _, rfl, rfl⟩
theorem EncodedLength.cmpGt (rd rs1 rs2 : Byte) :
    EncodedLength.Statement (.cmpGt rd rs1 rs2) := fun _ => ⟨_, _, rfl, rfl⟩
theorem EncodedLength.cmpNe (rd rs1 rs2 : Byte) :
    EncodedLength.Statement (.cmpNe rd rs1 rs2) := fun _ => ⟨_, _, rfl, rfl⟩
theorem EncodedLength.fadd (rd rs1 rs2 : Byte) :
    EncodedLength.Statement (.fadd rd rs1 rs2) := fun _ => ⟨_, _, rfl, rfl⟩
theorem EncodedLength.fsub (rd rs1 rs2 : Byte) :
    EncodedLength.Statement (.fsub rd rs1 rs2) := fun _ => ⟨_, _, rfl, rfl⟩
theorem EncodedLength.fmul (rd rs1 rs2 : Byte) :
    EncodedLength.Statement (.fmul rd rs1 rs2) := fun _ => ⟨_, _, rfl, rfl⟩
theorem EncodedLength.fdiv (rd rs1 rs2 : Byte) :
    EncodedLength.Statement (.fdiv rd rs1 rs2) := fun _ => ⟨_, _, rfl, rfl⟩
theorem EncodedLength.fmin (rd rs1 rs2 : Byte) :
    EncodedLength.Statement (.fmin rd rs1 rs2) := fun _ => ⟨_, _, rfl, rfl⟩
theorem EncodedLength.fmax (rd rs1 rs2 : Byte) :
    EncodedLength.Statement (.fmax rd rs1 rs2) := fun _ => ⟨_, _, rfl, rfl⟩
theorem EncodedLength.ftoi (rd rs1 ign : Byte) :
    EncodedLength.Statement (.ftoi rd rs1 ign) := fun _ => ⟨_, _, rfl, rfl⟩
theorem EncodedLength.itof (rd rs1 ign : Byte) :
    EncodedLength.Statement (.itof rd rs1 ign) := fun _ => ⟨_, _, rfl, rfl⟩
theorem EncodedLength.load (rd rs1 rs2 : Byte) :
    EncodedLength.Statement (.load rd rs1 rs2) := fun _ => ⟨_, _, rfl, rfl⟩
theorem EncodedLength.store (rd rs1 rs2 : Byte) :
    EncodedLength.Statement (.store rd rs1 rs2) := fun _ => ⟨_, _, rfl, rfl⟩
theorem EncodedLength.mov (rd rs1 ign : Byte) :
    EncodedLength.Statement (.mov rd rs1 ign) := fun _ => ⟨_, _, rfl, rfl⟩
theorem EncodedLength.swp (rd rs1 ign : Byte) :
    EncodedLength.Statement (.swp rd rs1 ign) := fun _ => ⟨_, _, rfl, rfl⟩
theorem EncodedLength.jz (rd rs1 ign : Byte) :
    EncodedLength.Statement (.jz rd rs1 ign) := fun _ => ⟨_, _, rfl, rfl⟩
theorem EncodedLength.jnz (rd rs1 ign : Byte) :
    EncodedLength.Statement (.jnz rd rs1 ign) := fun _ => ⟨_, _, rfl, rfl⟩
theorem EncodedLength.jlt (rd rs1 ign : Byte) :
    EncodedLength.Statement (.jlt rd rs1 ign) := fun _ => ⟨_, _, rfl, rfl⟩
theorem EncodedLength.jgt (rd rs1 ign : Byte) :
    EncodedLength.Statement (.jgt rd rs1 ign) := fun _ => ⟨_, _, rfl, rfl⟩
theorem EncodedLength.movi16 (rd : Byte) (imm16 : Half) :
    EncodedLength.Statement (.movi16 rd imm16) := fun o => by cases o <;> exact ⟨_, _, rfl, rfl⟩
theorem EncodedLength.addi16 (rd : Byte) (imm16 : Half) :
    EncodedLength.Statement (.addi16 rd imm16) := fun o => by cases o <;> exact ⟨_, _, rfl, rfl⟩
theorem EncodedLength.subi16 (rd : Byte) (imm16 : Half) :
    EncodedLength.Statement (.subi16 rd imm16) := fun o => by cases o <;> exact ⟨_, _, rfl, rfl⟩
theorem EncodedLength.jmp (ign : Byte) (imm16 : Half) :
    EncodedLength.Statement (.jmp ign imm16) := fun o => by cases o <;> exact ⟨_, _, rfl, rfl⟩
theorem EncodedLength.jal (rd : Byte) (imm16 : Half) :
    EncodedLength.Statement (.jal rd imm16) := fun o => by cases o <;> exact ⟨_, _, rfl, rfl⟩
theorem EncodedLength.call (rd : Byte) (imm16 : Half) :
    EncodedLength.Statement (.call rd imm16) := fun o => by cases o <;> exact ⟨_, _, rfl, rfl⟩
theorem EncodedLength.loop (rd : Byte) (imm16 : Half) :
    EncodedLength.Statement (.loop rd imm16) := fun o => by cases o <;> exact ⟨_, _, rfl, rfl⟩
theorem EncodedLength.select (rd : Byte) (imm16 : Half) :
    EncodedLength.Statement (.select rd imm16) := fun o => by cases o <;> exact ⟨_, _, rfl, rfl⟩
theorem EncodedLength.loadoff (rd rs1 : Byte) (imm16 : Half) :
    EncodedLength.Statement (.loadoff rd rs1 imm16) := fun o => by cases o <;> exact ⟨_, _, rfl, rfl⟩
theorem EncodedLength.storeoff (rd rs1 : Byte) (imm16 : Half) :
    EncodedLength.Statement (.storeoff rd rs1 imm16) := fun o => by cases o <;> exact ⟨_, _, rfl, rfl⟩
theorem EncodedLength.loadi (rd rs1 : Byte) (imm16 : Half) :
    EncodedLength.Statement (.loadi rd rs1 imm16) := fun o => by cases o <;> exact ⟨_, _, rfl, rfl⟩
theorem EncodedLength.storei (rd rs1 : Byte) (imm16 : Half) :
    EncodedLength.Statement (.storei rd rs1 imm16) := fun o => by cases o <;> exact ⟨_, _, rfl, rfl⟩
theorem EncodedLength.enter (rd rs1 : Byte) (imm16 : Half) :
    EncodedLength.Statement (.enter rd rs1 imm16) := fun o => by cases o <;> exact ⟨_, _, rfl, rfl⟩
theorem EncodedLength.leave (rd rs1 : Byte) (imm16 : Half) :
    EncodedLength.Statement (.leave rd rs1 imm16) := fun o => by cases o <;> exact ⟨_, _, rfl, rfl⟩
theorem EncodedLength.copy (rd rs1 : Byte) (imm16 : Half) :
    EncodedLength.Statement (.copy rd rs1 imm16) := fun o => by cases o <;> exact ⟨_, _, rfl, rfl⟩
theorem EncodedLength.fill (rd rs1 : Byte) (imm16 : Half) :
    EncodedLength.Statement (.fill rd rs1 imm16) := fun o => by cases o <;> exact ⟨_, _, rfl, rfl⟩
theorem EncodedLength.tell (rd rs1 rs2 : Byte) :
    EncodedLength.Statement (.tell rd rs1 rs2) := fun _ => ⟨_, _, rfl, rfl⟩
theorem EncodedLength.ask (rd rs1 rs2 : Byte) :
    EncodedLength.Statement (.ask rd rs1 rs2) := fun _ => ⟨_, _, rfl, rfl⟩
theorem EncodedLength.deleg (rd rs1 rs2 : Byte) :
    EncodedLength.Statement (.deleg rd rs1 rs2) := fun _ => ⟨_, _, rfl, rfl⟩
theorem EncodedLength.bcast (rd rs1 rs2 : Byte) :
    EncodedLength.Statement (.bcast rd rs1 rs2) := fun _ => ⟨_, _, rfl, rfl⟩
theorem EncodedLength.accept (rd rs1 rs2 : Byte) :
    EncodedLength.Statement (.accept rd rs1 rs2) := fun _ => ⟨_, _, rfl, rfl⟩
theorem EncodedLength.decline (rd rs1 rs2 : Byte) :
    EncodedLength.Statement (.decline rd rs1 rs2) := fun _ => ⟨_, _, rfl, rfl⟩
theorem EncodedLength.report (rd rs1 rs2 : Byte) :
    EncodedLength.Statement (.report rd rs1 rs2) := fun _ => ⟨_, _, rfl, rfl⟩
theorem EncodedLength.merge (rd rs1 rs2 : Byte) :
    EncodedLength.Statement (.merge rd rs1 rs2) := fun _ => ⟨_, _, rfl, rfl⟩
theorem EncodedLength.fork (rd rs1 rs2 : Byte) :
    EncodedLength.Statement (.fork rd rs1 rs2) := fun _ => ⟨_, _, rfl, rfl⟩
theorem EncodedLength.join (rd rs1 rs2 : Byte) :
    EncodedLength.Statement (.join rd rs1 rs2) := fun _ => ⟨_, _, rfl, rfl⟩
theorem EncodedLength.signal (rd rs1 rs2 : Byte) :
    EncodedLength.Statement (.signal rd rs1 rs2) := fun _ => ⟨_, _, rfl, rfl⟩
theorem EncodedLength.await (rd rs1 rs2 : Byte) :
    EncodedLength.Statement (.await rd rs1 rs2) := fun _ => ⟨_, _, rfl, rfl⟩
theorem EncodedLength.trust (rd rs1 rs2 : Byte) :
    EncodedLength.Statement (.trust rd rs1 rs2) := fun _ => ⟨_, _, rfl, rfl⟩
theorem EncodedLength.discov (rd rs1 rs2 : Byte) :
    EncodedLength.Statement (.discov rd rs1 rs2) := fun _ => ⟨_, _, rfl, rfl⟩
theorem EncodedLength.status (rd rs1 rs2 : Byte) :
    EncodedLength.Statement (.status rd rs1 rs2) := fun _ => ⟨_, _, rfl, rfl⟩
theorem EncodedLength.heartbt (rd rs1 rs2 : Byte) :
    EncodedLength.Statement (.heartbt rd rs1 rs2) := fun _ => ⟨_, _, rfl, rfl⟩
theorem EncodedLength.cAdd (rd rs1 rs2 : Byte) :
    EncodedLength.Statement (.cAdd rd rs1 rs2) := fun _ => ⟨_, _, rfl, rfl⟩
theorem EncodedLength.cSub (rd rs1 rs2 : Byte) :
    EncodedLength.Statement (.cSub rd rs1 rs2) := fun _ => ⟨_, _, rfl, rfl⟩
theorem EncodedLength.cMul (rd rs1 rs2 : Byte) :
    EncodedLength.Statement (.cMul rd rs1 rs2) := fun _ => ⟨_, _, rfl, rfl⟩
theorem EncodedLength.cDiv (rd rs1 rs2 : Byte) :
    EncodedLength.Statement (.cDiv rd rs1 rs2) := fun _ => ⟨_, _, rfl, rfl⟩
theorem EncodedLength.cFadd (rd rs1 rs2 : Byte) :
    EncodedLength.Statement (.cFadd rd rs1 rs2) := fun _ => ⟨_, _, rfl, rfl⟩
theorem EncodedLength.cFsub (rd rs1 rs2 : Byte) :
    EncodedLength.Statement (.cFsub rd rs1 rs2) := fun _ => ⟨_, _, rfl, rfl⟩
theorem EncodedLength.cFmul (rd rs1 rs2 : Byte) :
    EncodedLength.Statement (.cFmul rd rs1 rs2) := fun _ => ⟨_, _, rfl, rfl⟩
theorem EncodedLength.cFdiv (rd rs1 rs2 : Byte) :
    EncodedLength.Statement (.cFdiv rd rs1 rs2) := fun _ => ⟨_, _, rfl, rfl⟩
theorem EncodedLength.cMerge (rd rs1 rs2 : Byte) :
    EncodedLength.Statement (.cMerge rd rs1 rs2) := fun _ => ⟨_, _, rfl, rfl⟩
theorem EncodedLength.cThresh (rd imm8 : Byte) :
    EncodedLength.Statement (.cThresh rd imm8) := fun _ => ⟨_, _, rfl, rfl⟩
theorem EncodedLength.cBoost (rd rs1 rs2 : Byte) :
    EncodedLength.Statement (.cBoost rd rs1 rs2) := fun _ => ⟨_, _, rfl, rfl⟩
theorem EncodedLength.cDecay (rd rs1 rs2 : Byte) :
    EncodedLength.Statement (.cDecay rd rs1 rs2) := fun _ => ⟨_, _, rfl, rfl⟩
theorem EncodedLength.cSource (rd rs1 rs2 : Byte) :
    EncodedLength.Statement (.cSource rd rs1 rs2) := fun _ => ⟨_, _, rfl, rfl⟩
theorem EncodedLength.cCalib (rd rs1 rs2 : Byte) :
    EncodedLength.Statement (.cCalib rd rs1 rs2) := fun _ => ⟨_, _, rfl, rfl⟩
theorem EncodedLength.cExply (rd rs1 rs2 : Byte) :
    EncodedLength.Statement (.cExply rd rs1 rs2) := fun _ => ⟨_, _, rfl, rfl⟩
theorem EncodedLength.cVote (rd rs1 rs2 : Byte) :
    EncodedLength.Statement (.cVote rd rs1 rs2) := fun _ => ⟨_, _, rfl, rfl⟩
theorem EncodedLength.vEvid (rd rs1 rs2 : Byte) :
    EncodedLength.Statement (.vEvid rd rs1 rs2) := fun _ => ⟨_, _, rfl, rfl⟩
theorem EncodedLength.vEpist (rd rs1 rs2 : Byte) :
    EncodedLength.Statement (.vEpist rd rs1 rs2) := fun _ => ⟨_, _, rfl, rfl⟩
theorem EncodedLength.vMir (rd rs1 rs2 : Byte) :
    EncodedLength.Statement (.vMir rd rs1 rs2) := fun _ => ⟨_, _, rfl, rfl⟩
theorem EncodedLength.vNeg (rd rs1 rs2 : Byte) :
    EncodedLength.Statement (.vNeg rd rs1 rs2) := fun _ => ⟨_, _, rfl, rfl⟩
theorem EncodedLength.vTense (rd rs1 rs2 : Byte) :
    EncodedLength.Statement (.vTense rd rs1 rs2) := fun _ => ⟨_, _, rfl, rfl⟩
theorem EncodedLength.vAspec (rd rs1 rs2 : Byte) :
    EncodedLength.Statement (.vAspec rd rs1 rs2) := fun _ => ⟨_, _, rfl, rfl⟩
theorem EncodedLength.vModal (rd rs1 rs2 : Byte) :
    EncodedLength.Statement (.vModal rd rs1 rs2) := fun _ => ⟨_, _, rfl, rfl⟩
theorem EncodedLength.vPolit (rd rs1 rs2 : Byte) :
    EncodedLength.Statement (.vPolit rd rs1 rs2) := fun _ => ⟨_, _, rfl, rfl⟩
theorem EncodedLength.vHonor (rd rs1 rs2 : Byte) :
    EncodedLength.Statement (.vHonor rd rs1 rs2) := fun _ => ⟨_, _, rfl, rfl⟩
theorem EncodedLength.vTopic (rd rs1 rs2 : Byte) :
    EncodedLength.Statement (.vTopic rd rs1 rs2) := fun _ => ⟨_, _, rfl, rfl⟩
theorem EncodedLength.vFocus (rd rs1 rs2 : Byte) :
    EncodedLength.Statement (.vFocus rd rs1 rs2) := fun _ => ⟨_, _, rfl, rfl⟩
theorem EncodedLength.vCase (rd rs1 rs2 : Byte) :
    EncodedLength.Statement (.vCase rd rs1 rs2) := fun _ => ⟨_, _, rfl, rfl⟩
theorem EncodedLength.vAgree (rd rs1 rs2 : Byte) :
    EncodedLength.Statement (.vAgree rd rs1 rs2) := fun _ => ⟨_, _, rfl, rfl⟩
theorem EncodedLength.vClass (rd rs1 rs2 : Byte) :
    EncodedLength.Statement (.vClass rd rs1 rs2) := fun _ => ⟨_, _, rfl, rfl⟩
theorem EncodedLength.vInfl (rd rs1 rs2 : Byte) :
    EncodedLength.Statement (.vInfl rd rs1 rs2) := fun _ => ⟨_, _, rfl, rfl⟩
theorem EncodedLength.vPragma (rd rs1 rs2 : Byte) :
    EncodedLength.Statement (.vPragma rd rs1 rs2) := fun _ => ⟨_, _, rfl, rfl⟩
theorem EncodedLength.sense (rd rs1 rs2 : Byte) :
    EncodedLength.Statement (.sense rd rs1 rs2) := fun _ => ⟨_, _, rfl, rfl⟩
theorem EncodedLength.actuate (rd rs1 rs2 : Byte) :
    EncodedLength.Statement (.actuate rd rs1 rs2) := fun _ => ⟨_, _, rfl, rfl⟩
theorem EncodedLength.sample (rd rs1 rs2 : Byte) :
    EncodedLength.Statement (.sample rd rs1 rs2) := fun _ => ⟨_, _, rfl, rfl⟩
theorem EncodedLength.energy (rd rs1 rs2 : Byte) :
    EncodedLength.Statement (.energy rd rs1 rs2) := fun _ => ⟨_, _, rfl, rfl⟩
theorem EncodedLength.temp (rd rs1 rs2 : Byte) :
    EncodedLength.Statement (.temp rd rs1 rs2) := fun _ => ⟨_, _, rfl, rfl⟩
theorem EncodedLength.gps (rd rs1 rs2 : Byte) :
    EncodedLength.Statement (.gps rd rs1 rs2) := fun _ => ⟨_, _, rfl, rfl⟩
theorem EncodedLength.accel (rd rs1 rs2 : Byte) :
    EncodedLength.Statement (.accel rd rs1 rs2) := fun _ => ⟨_, _, rfl, rfl⟩
theorem EncodedLength.depth (rd rs1 rs2 : Byte) :
    EncodedLength.Statement (.depth rd rs1 rs2) := fun _ => ⟨_, _, rfl, rfl⟩
theorem EncodedLength.camcap (rd rs1 rs2 : Byte) :
    EncodedLength.Statement (.camcap rd rs1 rs2) := fun _ => ⟨_, _, rfl, rfl⟩
theorem EncodedLength.camdet (rd rs1 rs2 : Byte) :
    EncodedLength.Statement (.camdet rd rs1 rs2) := fun _ => ⟨_, _, rfl, rfl⟩
theorem EncodedLength.pwm (rd rs1 rs2 : Byte) :
    EncodedLength.Statement (.pwm rd rs1 rs2) := fun _ => ⟨_, _, rfl, rfl⟩
theorem EncodedLength.gpio (rd rs1 rs2 : Byte) :
    EncodedLength.Statement (.gpio rd rs1 rs2) := fun _ => ⟨_, _, rfl, rfl⟩
theorem EncodedLength.i2c (rd rs1 rs2 : Byte) :
    EncodedLength.Statement (.i2c rd rs1 rs2) := fun _ => ⟨_, _, rfl, rfl⟩
theorem EncodedLength.spi (rd rs1 rs2 : Byte) :
    EncodedLength.Statement (.spi rd rs1 rs2) := fun _ => ⟨_, _, rfl, rfl⟩
theorem EncodedLength.uart (rd rs1 rs2 : Byte) :
    EncodedLength.Statement (.uart rd rs1 rs2) := fun _ => ⟨_, _, rfl, rfl⟩
theorem EncodedLength.canbus (rd rs1 rs2 : Byte) :
    EncodedLength.Statement (.canbus rd rs1 rs2) := fun _ => ⟨_, _, rfl, rfl⟩
theorem EncodedLength.abs (rd rs1 ign : Byte) :
    EncodedLength.Statement (.abs rd rs1 ign) := fun _ => ⟨_, _, rfl, rfl⟩
theorem EncodedLength.sign (rd rs1 ign : Byte) :
    EncodedLength.Statement (.sign rd rs1 ign) := fun _ => ⟨_, _, rfl, rfl⟩
theorem EncodedLength.sqrt (rd rs1 ign : Byte) :
    EncodedLength.Statement (.sqrt rd rs1 ign) := fun _ => ⟨_, _, rfl, rfl⟩
theorem EncodedLength.pow (rd rs1 rs2 : Byte) :
    EncodedLength.Statement (.pow rd rs1 rs2) := fun _ => ⟨_, _, rfl, rfl⟩
theorem EncodedLength.log2 (rd rs1 ign : Byte) :
    EncodedLength.Statement (.log2 rd rs1 ign) := fun _ => ⟨_, _, rfl, rfl⟩
theorem EncodedLength.clz (rd rs1 ign : Byte) :
    EncodedLength.Statement (.clz rd rs1 ign) := fun _ => ⟨_, _, rfl, rfl⟩
theorem EncodedLength.ctz (rd rs1 ign : Byte) :
    EncodedLength.Statement (.ctz rd rs1 ign) := fun _ => ⟨_, _, rfl, rfl⟩
theorem EncodedLength.popcnt (rd rs1 ign : Byte) :
    EncodedLength.Statement (.popcnt rd rs1 ign) := fun _ => ⟨_, _, rfl, rfl⟩
theorem EncodedLength.crc32 (rd rs1 rs2 : Byte) :
    EncodedLength.Statement (.crc32 rd rs1 rs2) := fun _ => ⟨_, _, rfl, rfl⟩
theorem EncodedLength.sha256 (rd rs1 rs2 : Byte) :
    EncodedLength.Statement (.sha256 rd rs1 rs2) := fun _ => ⟨_, _, rfl, rfl⟩
theorem EncodedLength.rnd (rd rs1 rs2 : Byte) :
    EncodedLength.Statement (.rnd rd rs1 rs2) := fun _ => ⟨_, _, rfl, rfl⟩
theorem EncodedLength.seed (rd rs1 ign : Byte) :
    EncodedLength.Statement (.seed rd rs1 ign) := fun _ => ⟨_, _, rfl, rfl⟩
theorem EncodedLength.fmod (rd rs1 rs2 : Byte) :
    EncodedLength.Statement (.fmod rd rs1 rs2) := fun _ => ⟨_, _, rfl, rfl⟩
theorem EncodedLength.fsqrt (rd rs1 ign : Byte) :
    EncodedLength.Statement (.fsqrt rd rs1 ign) := fun _ => ⟨_, _, rfl, rfl⟩
theorem EncodedLength.fsin (rd rs1 ign : Byte) :
    EncodedLength.Statement (.fsin rd rs1 ign) := fun _ => ⟨_, _, rfl, rfl⟩
theorem EncodedLength.fcos (rd rs1 ign : Byte) :
    EncodedLength.Statement (.fcos rd rs1 ign) := fun _ => ⟨_, _, rfl, rfl⟩
theorem EncodedLength.len (rd imm8 : Byte) :
    EncodedLength.Statement (.len rd imm8) := fun _ => ⟨_, _, rfl, rfl⟩
theorem EncodedLength.concat (rd rs1 rs2 : Byte) :
    EncodedLength.Statement (.concat rd rs1 rs2) := fun _ => ⟨_, _, rfl, rfl⟩
theorem EncodedLength.collAt (rd rs1 rs2 : Byte) :
    EncodedLength.Statement (.collAt rd rs1 rs2) := fun _ => ⟨_, _, rfl, rfl⟩
theorem EncodedLength.setat (rd rs1 rs2 : Byte) :
    EncodedLength.Statement (.setat rd rs1 rs2) := fun _ => ⟨_, _, rfl, rfl⟩
theorem EncodedLength.slice (rd rs1 : Byte) (imm16 : Half) :
    EncodedLength.Statement (.slice rd rs1 imm16) := fun o => by cases o <;> exact ⟨_, _, rfl, rfl⟩
theorem EncodedLength.reduce (rd rs1 rs2 : Byte) :
    EncodedLength.Statement (.reduce rd rs1 rs2) := fun _ => ⟨_, _, rfl, rfl⟩
theorem EncodedLength.map (rd rs1 rs2 : Byte) :
    EncodedLength.Statement (.map rd rs1 rs2) := fun _ => ⟨_, _, rfl, rfl⟩
theorem EncodedLength.filter (rd rs1 rs2 : Byte) :
    EncodedLength.Statement (.filter rd rs1 rs2) := fun _ => ⟨_, _, rfl, rfl⟩
theorem EncodedLength.sort (rd rs1 rs2 : Byte) :
    EncodedLength.Statement (.sort rd rs1 rs2) := fun _ => ⟨_, _, rfl, rfl⟩
theorem EncodedLength.find (rd rs1 rs2 : Byte) :
    EncodedLength.Statement (.find rd rs1 rs2) := fun _ => ⟨_, _, rfl, rfl⟩
theorem EncodedLength.hash (rd rs1 rs2 : Byte) :
    EncodedLength.Statement (.hash rd rs1 rs2) := fun _ => ⟨_, _, rfl, rfl⟩
theorem EncodedLength.hmac (rd rs1 rs2 : Byte) :
    EncodedLength.Statement (.hmac rd rs1 rs2) := fun _ => ⟨_, _, rfl, rfl⟩
theorem EncodedLength.verify (rd rs1 rs2 : Byte) :
    EncodedLength.Statement (.verify rd rs1 rs2) := fun _ => ⟨_, _, rfl, rfl⟩
theorem EncodedLength.encrypt (rd rs1 rs2 : Byte) :
    EncodedLength.Statement (.encrypt rd rs1 rs2) := fun _ => ⟨_, _, rfl, rfl⟩
theorem EncodedLength.decrypt (rd rs1 rs2 : Byte) :
    EncodedLength.Statement (.decrypt rd rs1 rs2) := fun _ => ⟨_, _, rfl, rfl⟩
theorem EncodedLength.keygen (rd rs1 rs2 : Byte) :
    EncodedLength.Statement (.keygen rd rs1 rs2) := fun _ => ⟨_, _, rfl, rfl⟩
theorem EncodedLength.vload (rd rs1 rs2 : Byte) :
    EncodedLength.Statement (.vload rd rs1 rs2) := fun _ => ⟨_, _, rfl, rfl⟩
theorem EncodedLength.vstore (rd rs1 rs2 : Byte) :
    EncodedLength.Statement (.vstore rd rs1 rs2) := fun _ => ⟨_, _, rfl, rfl⟩
theorem EncodedLength.vadd (rd rs1 rs2 : Byte) :
    EncodedLength.Statement (.vadd rd rs1 rs2) := fun _ => ⟨_, _, rfl, rfl⟩
theorem EncodedLength.vmul (rd rs1 rs2 : Byte) :
    EncodedLength.Statement (.vmul rd rs1 rs2) := fun _ => ⟨_, _, rfl, rfl⟩
theorem EncodedLength.vdot (rd rs1 rs2 : Byte) :
    EncodedLength.Statement (.vdot rd rs1 rs2) := fun _ => ⟨_, _, rfl, rfl⟩
theorem EncodedLength.vnorm (rd rs1 rs2 : Byte) :
    EncodedLength.Statement (.vnorm rd rs1 rs2) := fun _ => ⟨_, _, rfl, rfl⟩
theorem EncodedLength.vscale (rd rs1 rs2 : Byte) :
    EncodedLength.Statement (.vscale rd rs1 rs2) := fun _ => ⟨_, _, rfl, rfl⟩
theorem EncodedLength.vmaxp (rd rs1 rs2 : Byte) :
    EncodedLength.Statement (.vmaxp rd rs1 rs2) := fun _ => ⟨_, _, rfl, rfl⟩
theorem EncodedLength.vminp (rd rs1 rs2 : Byte) :
    EncodedLength.Statement (.vminp rd rs1 rs2) := fun _ => ⟨_, _, rfl, rfl⟩
theorem EncodedLength.vreduce (rd rs1 rs2 : Byte) :
    EncodedLength.Statement (.vreduce rd rs1 rs2) := fun _ => ⟨_, _, rfl, rfl⟩
theorem EncodedLength.vgather (rd rs1 rs2 : Byte) :
    EncodedLength.Statement (.vgather rd rs1 rs2) := fun _ => ⟨_, _, rfl, rfl⟩
theorem EncodedLength.vscatter (rd rs1 rs2 : Byte) :
    EncodedLength.Statement (.vscatter rd rs1 rs2) := fun _ => ⟨_, _, rfl, rfl⟩
theorem EncodedLength.vshuf (rd rs1 rs2 : Byte) :
    EncodedLength.Statement (.vshuf rd rs1 rs2) := fun _ => ⟨_, _, rfl, rfl⟩
theorem EncodedLength.vmerge (rd rs1 rs2 : Byte) :
    EncodedLength.Statement (.vmerge rd rs1 rs2) := fun _ => ⟨_, _, rfl, rfl⟩
theorem EncodedLength.vconf (rd rs1 rs2 : Byte) :
    EncodedLength.Statement (.vconf rd rs1 rs2) := fun _ => ⟨_, _, rfl, rfl⟩
theorem EncodedLength.vselect (rd rs1 rs2 : Byte) :
    EncodedLength.Statement (.vselect rd rs1 rs2) := fun _ => ⟨_, _, rfl, rfl⟩
theorem EncodedLength.tmatmul (rd rs1 rs2 : Byte) :
    EncodedLength.Statement (.tmatmul rd rs1 rs2) := fun _ => ⟨_, _, rfl, rfl⟩
theorem EncodedLength.tconv (rd rs1 rs2 : Byte) :
    EncodedLength.Statement (.tconv rd rs1 rs2) := fun _ => ⟨_, _, rfl, rfl⟩
theorem EncodedLength.tpool (rd rs1 rs2 : Byte) :
    EncodedLength.Statement (.tpool rd rs1 rs2) := fun _ => ⟨_, _, rfl, rfl⟩
theorem EncodedLength.trelu (rd rs1 rs2 : Byte) :
    EncodedLength.Statement (.trelu rd rs1 rs2) := fun _ => ⟨_, _, rfl, rfl⟩
theorem EncodedLength.tsigm (rd rs1 rs2 : Byte) :
    EncodedLength.Statement (.tsigm rd rs1 rs2) := fun _ => ⟨_, _, rfl, rfl⟩
theorem EncodedLength.tsoft (rd rs1 rs2 : Byte) :
    EncodedLength.Statement (.tsoft rd rs1 rs2) := fun _ => ⟨_, _, rfl, rfl⟩
theorem EncodedLength.tloss (rd rs1 rs2 : Byte) :
    EncodedLength.Statement (.tloss rd rs1 rs2) := fun _ => ⟨_, _, rfl, rfl⟩
theorem EncodedLength.tgrad (rd rs1 rs2 : Byte) :
    EncodedLength.Statement (.tgrad rd rs1 rs2) := fun _ => ⟨_, _, rfl, rfl⟩
theorem EncodedLength.tupdate (rd rs1 rs2 : Byte) :
    EncodedLength.Statement (.tupdate rd rs1 rs2) := fun _ => ⟨_, _, rfl, rfl⟩
theorem EncodedLength.tadam (rd rs1 rs2 : Byte) :
    EncodedLength.Statement (.tadam rd rs1 rs2) := fun _ => ⟨_, _, rfl, rfl⟩
theorem EncodedLength.tembed (rd rs1 rs2 : Byte) :
    EncodedLength.Statement (.tembed rd rs1 rs2) := fun _ => ⟨_, _, rfl, rfl⟩
theorem EncodedLength.tattn (rd rs1 rs2 : Byte) :
    EncodedLength.Statement (.tattn rd rs1 rs2) := fun _ => ⟨_, _, rfl, rfl⟩
theorem EncodedLength.tsample (rd rs1 rs2 : Byte) :
    EncodedLength.Statement (.tsample rd rs1 rs2) := fun _ => ⟨_, _, rfl, rfl⟩
theorem EncodedLength.ttoken (rd rs1 rs2 : Byte) :
    EncodedLength.Statement (.ttoken rd rs1 rs2) := fun _ => ⟨_, _, rfl, rfl⟩
theorem EncodedLength.tdetok (rd rs1 rs2 : Byte) :
    EncodedLength.Statement (.tdetok rd rs1 rs2) := fun _ => ⟨_, _, rfl, rfl⟩
theorem EncodedLength.tquant (rd rs1 rs2 : Byte) :
    EncodedLength.Statement (.tquant rd rs1 rs2) := fun _ => ⟨_, _, rfl, rfl⟩
theorem EncodedLength.dmaCpy (rd rs1 : Byte) (imm16 : Half) :
    EncodedLength.Statement (.dmaCpy rd rs1 imm16) := fun o => by cases o <;> exact ⟨_, _, rfl, rfl⟩
theorem EncodedLength.dmaSet (rd rs1 : Byte) (imm16 : Half) :
    EncodedLength.Statement (.dmaSet rd rs1 imm16) := fun o => by cases o <;> exact ⟨_, _, rfl, rfl⟩
theorem EncodedLength.mmioR (rd rs1 : Byte) (imm16 : Half) :
    EncodedLength.Statement (.mmioR rd rs1 imm16) := fun o => by cases o <;> exact ⟨_, _, rfl, rfl⟩
theorem EncodedLength.mmioW (rd rs1 : Byte) (imm16 : Half) :
    EncodedLength.Statement (.mmioW rd rs1 imm16) := fun o => by cases o <;> exact ⟨_, _, rfl, rfl⟩
theorem EncodedLength.atomic (rd rs1 : Byte) (imm16 : Half) :
    EncodedLength.Statement (.atomic rd rs1 imm16) := fun o => by cases o <;> exact ⟨_, _, rfl, rfl⟩
theorem EncodedLength.cas (rd rs1 : Byte) (imm16 : Half) :
    EncodedLength.Statement (.cas rd rs1 imm16) := fun o => by cases o <;> exact ⟨_, _, rfl, rfl⟩
theorem EncodedLength.fence (rd rs1 : Byte) (imm16 : Half) :
    EncodedLength.Statement (.fence rd rs1 imm16) := fun o => by cases o <;> exact ⟨_, _, rfl, rfl⟩
theorem EncodedLength.malloc (rd rs1 : Byte) (imm16 : Half) :
    EncodedLength.Statement (.malloc rd rs1 imm16) := fun o => by cases o <;> exact ⟨_, _, rfl, rfl⟩
theorem EncodedLength.free (rd rs1 : Byte) (imm16 : Half) :
    EncodedLength.Statement (.free rd rs1 imm16) := fun o => by cases o <;> exact ⟨_, _, rfl, rfl⟩
theorem EncodedLength.mprot (rd rs1 : Byte) (imm16 : Half) :
    EncodedLength.Statement (.mprot rd rs1 imm16) := fun o => by cases o <;> exact ⟨_, _, rfl, rfl⟩
theorem EncodedLength.mcache (rd rs1 : Byte) (imm16 : Half) :
    EncodedLength.Statement (.mcache rd rs1 imm16) := fun o => by cases o <;> exact ⟨_, _, rfl, rfl⟩
theorem EncodedLength.gpuLd (rd rs1 : Byte) (imm16 : Half) :
    EncodedLength.Statement (.gpuLd rd rs1 imm16) := fun o => by cases o <;> exact ⟨_, _, rfl, rfl⟩
theorem EncodedLength.gpuSt (rd rs1 : Byte) (imm16 : Half) :
    EncodedLength.Statement (.gpuSt rd rs1 imm16) := fun o => by cases o <;> exact ⟨_, _, rfl, rfl⟩
theorem EncodedLength.gpuEx (rd rs1 : Byte) (imm16 : Half) :
    EncodedLength.Statement (.gpuEx rd rs1 imm16) := fun o => by cases o <;> exact ⟨_, _, rfl, rfl⟩
theorem EncodedLength.gpuSync (rd rs1 : Byte) (imm16 : Half) :
    EncodedLength.Statement (.gpuSync rd rs1 imm16) := fun o => by cases o <;> exact ⟨_, _, rfl, rfl⟩
theorem EncodedLength.reservedDF :
    EncodedLength.Statement (.reservedDF) := fun _ => ⟨_, _, rfl, rfl⟩
theorem EncodedLength.jmpl (ign : Byte) (imm16 : Half) :
    EncodedLength.Statement (.jmpl ign imm16) := fun o => by cases o <;> exact ⟨_, _, rfl, rfl⟩
theorem EncodedLength.jall (rd : Byte) (imm16 : Half) :
    EncodedLength.Statement (.jall rd imm16) := fun o => by cases o <;> exact ⟨_, _, rfl, rfl⟩
theorem EncodedLength.calll (rd : Byte) (imm16 : Half) :
    EncodedLength.Statement (.calll rd imm16) := fun o => by cases o <;> exact ⟨_, _, rfl, rfl⟩
theorem EncodedLength.tail (rd : Byte) (imm16 : Half) :
    EncodedLength.Statement (.tail rd imm16) := fun o => by cases o <;> exact ⟨_, _, rfl, rfl⟩
theorem EncodedLength.switch (rd : Byte) (imm16 : Half) :
    EncodedLength.Statement (.switch rd imm16) := fun o => by cases o <;> exact ⟨_, _, rfl, rfl⟩
theorem EncodedLength.coyield (rd : Byte) (imm16 : Half) :
    EncodedLength.Statement (.coyield rd imm16) := fun o => by cases o <;> exact ⟨_, _, rfl, rfl⟩
theorem EncodedLength.coresum (rd : Byte) (imm16 : Half) :
    EncodedLength.Statement (.coresum rd imm16) := fun o => by cases o <;> exact ⟨_, _, rfl, rfl⟩
theorem EncodedLength.fault (rd : Byte) (imm16 : Half) :
    EncodedLength.Statement (.fault rd imm16) := fun o => by cases o <;> exact ⟨_, _, rfl, rfl⟩
theorem EncodedLength.handler (rd : Byte) (imm16 : Half) :
    EncodedLength.Statement (.handler rd imm16) := fun o => by cases o <;> exact ⟨_, _, rfl, rfl⟩
theorem EncodedLength.trace (rd : Byte) (imm16 : Half) :
    EncodedLength.Statement (.trace rd imm16) := fun o => by cases o <;> exact ⟨_, _, rfl, rfl⟩
theorem EncodedLength.profOn (rd : Byte) (imm16 : Half) :
    EncodedLength.Statement (.profOn rd imm16) := fun o => by cases o <;> exact ⟨_, _, rfl, rfl⟩
theorem EncodedLength.profOff (rd : Byte) (imm16 : Half) :
    EncodedLength.Statement (.profOff rd imm16) := fun o => by cases o <;> exact ⟨_, _, rfl, rfl⟩
theorem EncodedLength.watch (rd : Byte) (imm16 : Half) :
    EncodedLength.Statement (.watch rd imm16) := fun o => by cases o <;> exact ⟨_, _, rfl, rfl⟩
theorem EncodedLength.reservedED :
    EncodedLength.Statement (.reservedED) := fun _ => ⟨_, _, rfl, rfl⟩
theorem EncodedLength.reservedEE :
    EncodedLength.Statement (.reservedEE) := fun _ => ⟨_, _, rfl, rfl⟩
theorem EncodedLength.reservedEF :
    EncodedLength.Statement (.reservedEF) := fun _ => ⟨_, _, rfl, rfl⟩
theorem EncodedLength.haltErr :
    EncodedLength.Statement (.haltErr) := fun _ => ⟨_, _, rfl, rfl⟩
theorem EncodedLength.reboot :
    EncodedLength.Statement (.reboot) := fun _ => ⟨_, _, rfl, rfl⟩
theorem EncodedLength.dump :
    EncodedLength.Statement (.dump) := fun _ => ⟨_, _, rfl, rfl⟩
theorem EncodedLength.assert :
    EncodedLength.Statement (.assert) := fun _ => ⟨_, _, rfl, rfl⟩
theorem EncodedLength.id :
    EncodedLength.Statement (.id) := fun _ => ⟨_, _, rfl, rfl⟩
theorem EncodedLength.ver :
    EncodedLength.Statement (.ver) := fun _ => ⟨_, _, rfl, rfl⟩
theorem EncodedLength.clk :
    EncodedLength.Statement (.clk) := fun _ => ⟨_, _, rfl, rfl⟩
theorem EncodedLength.pclk :
    EncodedLength.Statement (.pclk) := fun _ => ⟨_, _, rfl, rfl⟩
theorem EncodedLength.wdog :
    EncodedLength.Statement (.wdog) := fun _ => ⟨_, _, rfl, rfl⟩
theorem EncodedLength.sleep :
    EncodedLength.Statement (.sleep) := fun _ => ⟨_, _, rfl, rfl⟩
theorem EncodedLength.reservedFA :
    EncodedLength.Statement (.reservedFA) := fun _ => ⟨_, _, rfl, rfl⟩
theorem EncodedLength.reservedFB :
    EncodedLength.Statement (.reservedFB) := fun _ => ⟨_, _, rfl, rfl⟩
theorem EncodedLength.reservedFC :
    EncodedLength.Statement (.reservedFC) := fun _ => ⟨_, _, rfl, rfl⟩
theorem EncodedLength.reservedFD :
    EncodedLength.Statement (.reservedFD) := fun _ => ⟨_, _, rfl, rfl⟩
theorem EncodedLength.reservedFE :
    EncodedLength.Statement (.reservedFE) := fun _ => ⟨_, _, rfl, rfl⟩
theorem EncodedLength.illegal :
    EncodedLength.Statement (.illegal) := fun _ => ⟨_, _, rfl, rfl⟩

end Sys2Proof.Laws
end

