-- ==== Sys2Proof/Tests/Slice0.lean ====
section
/-! SUPPORT. Tests. (1) Every constructor's decoding, on bytes written out from the `Encoding:` line of its rule. (2) What the
static checks refuse. (3) One step of each instruction that runs, on the vectors of spec/95_test_vectors.md section 2 that its
rule determines. (4) For each obligation with hypotheses, a concrete state and operands that meet them. -/

section

-- The kernel evaluates each test; one after another, so that they do not all ask for a stack at once.
set_option Elab.async false

namespace Sys2Proof.Tests

open Sys2Proof Sys2Proof.Machine

/-! ### Helpers -/

/-- The reset state with `code` from `pc` on, zeros below it, these registers and these bytes of memory. -/
def start (pc : Nat) (code : List Byte) (regs : List (Byte × Word)) (mem : List (Nat × List Byte)) : State :=
  regs.foldl (fun s r => s.setX r.1 r.2) { State.reset with
    pc := pc, code := List.replicate pc 0 ++ code, mem := mem.foldl (fun m b => m.setBytes b.1 b.2) [] }

/-- The step of `s` answers a next state with this property. -/
def gives (s : State) (p : State → Bool) : Bool :=
  match step s with
  | .next t => p t
  | _ => false

/-- The step of `s` raises this fault. -/
def faults (s : State) (f : Fault) : Bool :=
  match step s with
  | .fault g => g == f
  | _ => false

/-- The step of `s` is refused for this reason. -/
def refuses (s : State) (r : Refusal) : Bool :=
  match step s with
  | .refused q => q == r
  | _ => false

/-- The instruction at the head of a byte string, when it takes all of it. -/
def read (o : ByteOrder) (bs : List Byte) : Option Instr :=
  match decode o bs with
  | .ok (i, []) => some i
  | _ => none

/-- The recommended CONF with EPSILON 1/100 (48_confidence_a2a.md R511). -/
def exactConf : Params := { Params.default with conf := .exactRationals ⟨1 / 100, by decide +kernel, by decide +kernel⟩ }

/-- The confidence 1/2. -/
def half : Conf := ⟨1 / 2, by decide +kernel, by decide +kernel⟩

/-- The confidence 1/4. -/
def quarter : Conf := ⟨1 / 4, by decide +kernel, by decide +kernel⟩

/-! ### (1) Decoding -/

theorem test_decode_system_control_and_single_register :
    [
      [0x00], [0x01], [0x02], [0x03], [0x04], [0x05], [0x06], [0x07], [0x08, 1], [0x09, 1], [0x0A, 1], [0x0B, 1], [0x0C, 1],
      [0x0D, 1], [0x0E, 1], [0x0F, 1]
    ].map (read .little) =
    [
      .halt, .nop, .ret, .iret, .brk, .wfi, .reset, .syn, .inc 1, .dec 1, .not 1, .neg 1, .push 1, .pop 1, .confLd 1,
      .confSt 1
    ].map some := by
  decide +kernel

theorem test_decode_immediate :
    [
      [0x10, 1], [0x11, 1], [0x12, 1], [0x13, 1], [0x14, 1], [0x15, 1], [0x16, 1], [0x17, 1], [0x18, 1, 2], [0x19, 1, 2],
      [0x1A, 1, 2], [0x1B, 1, 2], [0x1C, 1, 2], [0x1D, 1, 2], [0x1E, 1, 2], [0x1F, 1, 2]
    ].map (read .little) =
    [
      .sys 1, .trap 1, .dbg 1, .clf 1, .sema 1, .yield 1, .cache 1, .stripcf 1, .movi 1 2, .addi 1 2, .subi 1 2, .andi 1 2,
      .ori 1 2, .xori 1 2, .shli 1 2, .shri 1 2
    ].map some := by
  decide +kernel

theorem test_decode_integer_arithmetic :
    [
      [0x20, 1, 2, 3], [0x21, 1, 2, 3], [0x22, 1, 2, 3], [0x23, 1, 2, 3], [0x24, 1, 2, 3], [0x25, 1, 2, 3], [0x26, 1, 2, 3],
      [0x27, 1, 2, 3], [0x28, 1, 2, 3], [0x29, 1, 2, 3], [0x2A, 1, 2, 3], [0x2B, 1, 2, 3], [0x2C, 1, 2, 3], [0x2D, 1, 2, 3],
      [0x2E, 1, 2, 3], [0x2F, 1, 2, 3]
    ].map (read .little) =
    [
      .add 1 2 3, .sub 1 2 3, .mul 1 2 3, .div 1 2 3, .mod 1 2 3, .and 1 2 3, .or 1 2 3, .xor 1 2 3, .shl 1 2 3, .shr 1 2 3,
      .min 1 2 3, .max 1 2 3, .cmpEq 1 2 3, .cmpLt 1 2 3, .cmpGt 1 2 3, .cmpNe 1 2 3
    ].map some := by
  decide +kernel

theorem test_decode_float_memory_control :
    [
      [0x30, 1, 2, 3], [0x31, 1, 2, 3], [0x32, 1, 2, 3], [0x33, 1, 2, 3], [0x34, 1, 2, 3], [0x35, 1, 2, 3], [0x36, 1, 2, 3],
      [0x37, 1, 2, 3], [0x38, 1, 2, 3], [0x39, 1, 2, 3], [0x3A, 1, 2, 3], [0x3B, 1, 2, 3], [0x3C, 1, 2, 3], [0x3D, 1, 2, 3],
      [0x3E, 1, 2, 3], [0x3F, 1, 2, 3]
    ].map (read .little) =
    [
      .fadd 1 2 3, .fsub 1 2 3, .fmul 1 2 3, .fdiv 1 2 3, .fmin 1 2 3, .fmax 1 2 3, .ftoi 1 2 3, .itof 1 2 3, .load 1 2 3,
      .store 1 2 3, .mov 1 2 3, .swp 1 2 3, .jz 1 2 3, .jnz 1 2 3, .jlt 1 2 3, .jgt 1 2 3
    ].map some := by
  decide +kernel

theorem test_decode_imm16_and_frames :
    [
      [0x40, 1, 0x34, 0x12], [0x41, 1, 0x34, 0x12], [0x42, 1, 0x34, 0x12], [0x43, 1, 0x34, 0x12], [0x44, 1, 0x34, 0x12],
      [0x45, 1, 0x34, 0x12], [0x46, 1, 0x34, 0x12], [0x47, 1, 0x34, 0x12], [0x48, 1, 2, 0x34, 0x12],
      [0x49, 1, 2, 0x34, 0x12], [0x4A, 1, 2, 0x34, 0x12], [0x4B, 1, 2, 0x34, 0x12], [0x4C, 1, 2, 0x34, 0x12],
      [0x4D, 1, 2, 0x34, 0x12], [0x4E, 1, 2, 0x34, 0x12], [0x4F, 1, 2, 0x34, 0x12]
    ].map (read .little) =
    [
      .movi16 1 0x1234, .addi16 1 0x1234, .subi16 1 0x1234, .jmp 1 0x1234, .jal 1 0x1234, .call 1 0x1234, .loop 1 0x1234,
      .select 1 0x1234, .loadoff 1 2 0x1234, .storeoff 1 2 0x1234, .loadi 1 2 0x1234, .storei 1 2 0x1234, .enter 1 2 0x1234,
      .leave 1 2 0x1234, .copy 1 2 0x1234, .fill 1 2 0x1234
    ].map some := by
  decide +kernel

theorem test_decode_agent_to_agent :
    [
      [0x50, 1, 2, 3], [0x51, 1, 2, 3], [0x52, 1, 2, 3], [0x53, 1, 2, 3], [0x54, 1, 2, 3], [0x55, 1, 2, 3], [0x56, 1, 2, 3],
      [0x57, 1, 2, 3], [0x58, 1, 2, 3], [0x59, 1, 2, 3], [0x5A, 1, 2, 3], [0x5B, 1, 2, 3], [0x5C, 1, 2, 3], [0x5D, 1, 2, 3],
      [0x5E, 1, 2, 3], [0x5F, 1, 2, 3]
    ].map (read .little) =
    [
      .tell 1 2 3, .ask 1 2 3, .deleg 1 2 3, .bcast 1 2 3, .accept 1 2 3, .decline 1 2 3, .report 1 2 3, .merge 1 2 3,
      .fork 1 2 3, .join 1 2 3, .signal 1 2 3, .await 1 2 3, .trust 1 2 3, .discov 1 2 3, .status 1 2 3, .heartbt 1 2 3
    ].map some := by
  decide +kernel

theorem test_decode_confidence :
    [
      [0x60, 1, 2, 3], [0x61, 1, 2, 3], [0x62, 1, 2, 3], [0x63, 1, 2, 3], [0x64, 1, 2, 3], [0x65, 1, 2, 3], [0x66, 1, 2, 3],
      [0x67, 1, 2, 3], [0x68, 1, 2, 3], [0x69, 1, 2], [0x6A, 1, 2, 3], [0x6B, 1, 2, 3], [0x6C, 1, 2, 3], [0x6D, 1, 2, 3],
      [0x6E, 1, 2, 3], [0x6F, 1, 2, 3]
    ].map (read .little) =
    [
      .cAdd 1 2 3, .cSub 1 2 3, .cMul 1 2 3, .cDiv 1 2 3, .cFadd 1 2 3, .cFsub 1 2 3, .cFmul 1 2 3, .cFdiv 1 2 3,
      .cMerge 1 2 3, .cThresh 1 2, .cBoost 1 2 3, .cDecay 1 2 3, .cSource 1 2 3, .cCalib 1 2 3, .cExply 1 2 3, .cVote 1 2 3
    ].map some := by
  decide +kernel

theorem test_decode_viewpoint :
    [
      [0x70, 1, 2, 3], [0x71, 1, 2, 3], [0x72, 1, 2, 3], [0x73, 1, 2, 3], [0x74, 1, 2, 3], [0x75, 1, 2, 3], [0x76, 1, 2, 3],
      [0x77, 1, 2, 3], [0x78, 1, 2, 3], [0x79, 1, 2, 3], [0x7A, 1, 2, 3], [0x7B, 1, 2, 3], [0x7C, 1, 2, 3], [0x7D, 1, 2, 3],
      [0x7E, 1, 2, 3], [0x7F, 1, 2, 3]
    ].map (read .little) =
    [
      .vEvid 1 2 3, .vEpist 1 2 3, .vMir 1 2 3, .vNeg 1 2 3, .vTense 1 2 3, .vAspec 1 2 3, .vModal 1 2 3, .vPolit 1 2 3,
      .vHonor 1 2 3, .vTopic 1 2 3, .vFocus 1 2 3, .vCase 1 2 3, .vAgree 1 2 3, .vClass 1 2 3, .vInfl 1 2 3, .vPragma 1 2 3
    ].map some := by
  decide +kernel

theorem test_decode_sensor :
    [
      [0x80, 1, 2, 3], [0x81, 1, 2, 3], [0x82, 1, 2, 3], [0x83, 1, 2, 3], [0x84, 1, 2, 3], [0x85, 1, 2, 3], [0x86, 1, 2, 3],
      [0x87, 1, 2, 3], [0x88, 1, 2, 3], [0x89, 1, 2, 3], [0x8A, 1, 2, 3], [0x8B, 1, 2, 3], [0x8C, 1, 2, 3], [0x8D, 1, 2, 3],
      [0x8E, 1, 2, 3], [0x8F, 1, 2, 3]
    ].map (read .little) =
    [
      .sense 1 2 3, .actuate 1 2 3, .sample 1 2 3, .energy 1 2 3, .temp 1 2 3, .gps 1 2 3, .accel 1 2 3, .depth 1 2 3,
      .camcap 1 2 3, .camdet 1 2 3, .pwm 1 2 3, .gpio 1 2 3, .i2c 1 2 3, .spi 1 2 3, .uart 1 2 3, .canbus 1 2 3
    ].map some := by
  decide +kernel

theorem test_decode_extended_math :
    [
      [0x90, 1, 2, 3], [0x91, 1, 2, 3], [0x92, 1, 2, 3], [0x93, 1, 2, 3], [0x94, 1, 2, 3], [0x95, 1, 2, 3], [0x96, 1, 2, 3],
      [0x97, 1, 2, 3], [0x98, 1, 2, 3], [0x99, 1, 2, 3], [0x9A, 1, 2, 3], [0x9B, 1, 2, 3], [0x9C, 1, 2, 3], [0x9D, 1, 2, 3],
      [0x9E, 1, 2, 3], [0x9F, 1, 2, 3]
    ].map (read .little) =
    [
      .abs 1 2 3, .sign 1 2 3, .sqrt 1 2 3, .pow 1 2 3, .log2 1 2 3, .clz 1 2 3, .ctz 1 2 3, .popcnt 1 2 3, .crc32 1 2 3,
      .sha256 1 2 3, .rnd 1 2 3, .seed 1 2 3, .fmod 1 2 3, .fsqrt 1 2 3, .fsin 1 2 3, .fcos 1 2 3
    ].map some := by
  decide +kernel

theorem test_decode_collection_and_crypto :
    [
      [0xA0, 1, 2], [0xA1, 1, 2, 3], [0xA2, 1, 2, 3], [0xA3, 1, 2, 3], [0xA4, 1, 2, 0x34, 0x12], [0xA5, 1, 2, 3],
      [0xA6, 1, 2, 3], [0xA7, 1, 2, 3], [0xA8, 1, 2, 3], [0xA9, 1, 2, 3], [0xAA, 1, 2, 3], [0xAB, 1, 2, 3], [0xAC, 1, 2, 3],
      [0xAD, 1, 2, 3], [0xAE, 1, 2, 3], [0xAF, 1, 2, 3]
    ].map (read .little) =
    [
      .len 1 2, .concat 1 2 3, .collAt 1 2 3, .setat 1 2 3, .slice 1 2 0x1234, .reduce 1 2 3, .map 1 2 3, .filter 1 2 3,
      .sort 1 2 3, .find 1 2 3, .hash 1 2 3, .hmac 1 2 3, .verify 1 2 3, .encrypt 1 2 3, .decrypt 1 2 3, .keygen 1 2 3
    ].map some := by
  decide +kernel

theorem test_decode_vector :
    [
      [0xB0, 1, 2, 3], [0xB1, 1, 2, 3], [0xB2, 1, 2, 3], [0xB3, 1, 2, 3], [0xB4, 1, 2, 3], [0xB5, 1, 2, 3], [0xB6, 1, 2, 3],
      [0xB7, 1, 2, 3], [0xB8, 1, 2, 3], [0xB9, 1, 2, 3], [0xBA, 1, 2, 3], [0xBB, 1, 2, 3], [0xBC, 1, 2, 3], [0xBD, 1, 2, 3],
      [0xBE, 1, 2, 3], [0xBF, 1, 2, 3]
    ].map (read .little) =
    [
      .vload 1 2 3, .vstore 1 2 3, .vadd 1 2 3, .vmul 1 2 3, .vdot 1 2 3, .vnorm 1 2 3, .vscale 1 2 3, .vmaxp 1 2 3,
      .vminp 1 2 3, .vreduce 1 2 3, .vgather 1 2 3, .vscatter 1 2 3, .vshuf 1 2 3, .vmerge 1 2 3, .vconf 1 2 3,
      .vselect 1 2 3
    ].map some := by
  decide +kernel

theorem test_decode_tensor :
    [
      [0xC0, 1, 2, 3], [0xC1, 1, 2, 3], [0xC2, 1, 2, 3], [0xC3, 1, 2, 3], [0xC4, 1, 2, 3], [0xC5, 1, 2, 3], [0xC6, 1, 2, 3],
      [0xC7, 1, 2, 3], [0xC8, 1, 2, 3], [0xC9, 1, 2, 3], [0xCA, 1, 2, 3], [0xCB, 1, 2, 3], [0xCC, 1, 2, 3], [0xCD, 1, 2, 3],
      [0xCE, 1, 2, 3], [0xCF, 1, 2, 3]
    ].map (read .little) =
    [
      .tmatmul 1 2 3, .tconv 1 2 3, .tpool 1 2 3, .trelu 1 2 3, .tsigm 1 2 3, .tsoft 1 2 3, .tloss 1 2 3, .tgrad 1 2 3,
      .tupdate 1 2 3, .tadam 1 2 3, .tembed 1 2 3, .tattn 1 2 3, .tsample 1 2 3, .ttoken 1 2 3, .tdetok 1 2 3,
      .tquant 1 2 3
    ].map some := by
  decide +kernel

theorem test_decode_extended_memory :
    [
      [0xD0, 1, 2, 0x34, 0x12], [0xD1, 1, 2, 0x34, 0x12], [0xD2, 1, 2, 0x34, 0x12], [0xD3, 1, 2, 0x34, 0x12],
      [0xD4, 1, 2, 0x34, 0x12], [0xD5, 1, 2, 0x34, 0x12], [0xD6, 1, 2, 0x34, 0x12], [0xD7, 1, 2, 0x34, 0x12],
      [0xD8, 1, 2, 0x34, 0x12], [0xD9, 1, 2, 0x34, 0x12], [0xDA, 1, 2, 0x34, 0x12], [0xDB, 1, 2, 0x34, 0x12],
      [0xDC, 1, 2, 0x34, 0x12], [0xDD, 1, 2, 0x34, 0x12], [0xDE, 1, 2, 0x34, 0x12], [0xDF]
    ].map (read .little) =
    [
      .dmaCpy 1 2 0x1234, .dmaSet 1 2 0x1234, .mmioR 1 2 0x1234, .mmioW 1 2 0x1234, .atomic 1 2 0x1234, .cas 1 2 0x1234,
      .fence 1 2 0x1234, .malloc 1 2 0x1234, .free 1 2 0x1234, .mprot 1 2 0x1234, .mcache 1 2 0x1234, .gpuLd 1 2 0x1234,
      .gpuSt 1 2 0x1234, .gpuEx 1 2 0x1234, .gpuSync 1 2 0x1234, .reservedDF
    ].map some := by
  decide +kernel

theorem test_decode_long_jump :
    [
      [0xE0, 1, 0x34, 0x12], [0xE1, 1, 0x34, 0x12], [0xE2, 1, 0x34, 0x12], [0xE3, 1, 0x34, 0x12], [0xE4, 1, 0x34, 0x12],
      [0xE5, 1, 0x34, 0x12], [0xE6, 1, 0x34, 0x12], [0xE7, 1, 0x34, 0x12], [0xE8, 1, 0x34, 0x12], [0xE9, 1, 0x34, 0x12],
      [0xEA, 1, 0x34, 0x12], [0xEB, 1, 0x34, 0x12], [0xEC, 1, 0x34, 0x12], [0xED], [0xEE], [0xEF]
    ].map (read .little) =
    [
      .jmpl 1 0x1234, .jall 1 0x1234, .calll 1 0x1234, .tail 1 0x1234, .switch 1 0x1234, .coyield 1 0x1234,
      .coresum 1 0x1234, .fault 1 0x1234, .handler 1 0x1234, .trace 1 0x1234, .profOn 1 0x1234, .profOff 1 0x1234,
      .watch 1 0x1234, .reservedED, .reservedEE, .reservedEF
    ].map some := by
  decide +kernel

theorem test_decode_extended_system :
    [
      [0xF0], [0xF1], [0xF2], [0xF3], [0xF4], [0xF5], [0xF6], [0xF7], [0xF8], [0xF9], [0xFA], [0xFB], [0xFC], [0xFD],
      [0xFE], [0xFF]
    ].map (read .little) =
    [
      .haltErr, .reboot, .dump, .assert, .id, .ver, .clk, .pclk, .wdog, .sleep, .reservedFA, .reservedFB, .reservedFC,
      .reservedFD, .reservedFE, .illegal
    ].map some := by
  decide +kernel

theorem test_decode_hi_first : read .hiFirst [0x40, 1, 0x12, 0x34] = some (.movi16 1 0x1234) := by decide +kernel

theorem test_decode_truncated : decode .little [0x20, 1, 2] = .error (.truncated 0x20) := by rfl

theorem test_decode_table_word : decodeTableWord 40 0xFFFC0E0348 = some (.loadoff 3 14 0xFFFC) := by decide +kernel

/-! ### (2) Static checks -/

theorem test_defect_no_instruction : (Instr.reservedDF).defect .full64 = some .noInstruction := by decide
theorem test_defect_out_of_range : (Instr.add 1 2 64).defect .full64 = some .registerOutOfRange := by decide
theorem test_defect_out_of_range_level1 : (Instr.add 1 2 16).defect .level1 = some .registerOutOfRange := by decide
theorem test_defect_cell_out_of_range : (Instr.confLd 64).defect .full64 = some .registerOutOfRange := by decide
theorem test_defect_vector : (Instr.add 48 2 1).defect .full64 = some .vectorRegisterAs32Bit := by decide
theorem test_defect_range_first : (Instr.add 48 2 64).defect .full64 = some .registerOutOfRange := by decide
theorem test_defect_pop_into_sp : (Instr.pop 11).defect .full64 = some .popIntoSP := by decide
theorem test_defect_dbg : (Instr.dbg 48).defect .full64 = some .dbgOperand := by decide
theorem test_defect_cache : (Instr.cache 3).defect .full64 = some .cacheOperation := by decide
theorem test_defect_shift_count : (Instr.shli 1 64).defect .full64 = some .shiftCount := by decide
theorem test_defect_imm16 : (Instr.loop 1 0x8000).defect .full64 = some .imm16Signedness := by decide
theorem test_well_formed : (Instr.add 47 0 11).WellFormed .full64 ∧ (Instr.mov 1 2 255).WellFormed .full64 ∧
    (Instr.confLd 63).WellFormed .full64 ∧ (Instr.tell 255 255 255).WellFormed .full64 := by decide

/-! ### (3) One step (95_test_vectors.md section 2) -/

theorem test_halt :
    gives (start 0 [0x00] [] []) fun t =>
      t.halted && t.pc == 1 := by
  decide +kernel

theorem test_nop :
    gives (start 0 [0x01] [] []) fun t =>
      t.pc == 1 := by
  decide +kernel

theorem test_ret_at_top_level :
    gives (start 0 [0x02] [] []) fun t =>
      t.halted && t.pc == 1 && t.sp == 0x10000 := by
  decide +kernel

theorem test_ret_after_a_push_of_7 :
    gives (start 0 [0x02] [(11, 0xFFFC)] [(0xFFFC, [0x07, 0x00, 0x00, 0x00])]) fun t =>
      t.pc == 7 && t.sp == 0x10000 := by
  decide +kernel

theorem test_brk :
    faults (start 0 [0x04] [] []) (.breakpoint 0) := by
  decide +kernel

theorem test_wfi :
    faults (start 0 [0x05] [] []) (.stuck 0) := by
  decide +kernel

theorem test_reset :
    gives { start 0 [0x06] [(1, 0x5), (11, 0xFFFC)] [] with flags := ⟨true, false, false, false⟩ } fun t =>
      t.pc == 1 && t.getX 1 == 0x0 && t.sp == 0x0 && t.flags.z && !t.flags.s := by
  decide +kernel

theorem test_syn :
    gives (start 0 [0x07] [] []) fun t =>
      t.pc == 1 := by
  decide +kernel

theorem test_illegal :
    faults (start 0 [0xFF] [] []) (.illegalOpcode 0xFF) := by
  decide +kernel

theorem test_inc_wraps :
    gives (start 0 [0x08, 0x01] [(1, 0xFFFFFFFF)] []) fun t =>
      t.pc == 2 && t.getX 1 == 0x0 && t.flags.z && !t.flags.s := by
  decide +kernel

theorem test_dec_below_zero :
    gives (start 0 [0x09, 0x01] [(1, 0x0)] []) fun t =>
      t.pc == 2 && t.getX 1 == 0xFFFFFFFF && !t.flags.z && t.flags.s := by
  decide +kernel

theorem test_not :
    gives (start 0 [0x0A, 0x01] [(1, 0xFFFF)] []) fun t =>
      t.pc == 2 && t.getX 1 == 0xFFFF0000 && !t.flags.z && t.flags.s := by
  decide +kernel

theorem test_neg :
    gives (start 0 [0x0B, 0x01] [(1, 0x5)] []) fun t =>
      t.pc == 2 && t.getX 1 == 0xFFFFFFFB && !t.flags.z && t.flags.s := by
  decide +kernel

theorem test_push :
    gives (start 0 [0x0C, 0x01] [(1, 0x11223344), (11, 0x10000)] []) fun t =>
      t.pc == 2 && t.mem.bytes 65532 4 == [0x44, 0x33, 0x22, 0x11] && t.sp == 0xFFFC := by
  decide +kernel

theorem test_push_with_sp_0 :
    faults (start 0 [0x0C, 0x01] [(11, 0x0)] []) (.memoryFault 0xFFFFFFFC) := by
  decide +kernel

theorem test_pop :
    gives (start 0 [0x0D, 0x02] [(11, 0xFFFC)] [(0xFFFC, [0x44, 0x33, 0x22, 0x11])]) fun t =>
      t.pc == 2 && t.getX 2 == 0x11223344 && t.sp == 0x10000 := by
  decide +kernel

theorem test_pop_from_the_empty_stack :
    faults (start 0 [0x0D, 0x02] [(11, 0x10000)] []) (.memoryFault 65536) := by
  decide +kernel

theorem test_register_out_of_range :
    refuses (start 0 [0x08, 0x40] [] []) .registerOutOfRange := by
  decide +kernel

theorem test_dbg :
    gives (start 0 [0x12, 0x01] [(1, 0x7)] []) fun t =>
      t.pc == 2 && t.debugOut == [⟨1, 7⟩] := by
  decide +kernel

theorem test_clf_z_and_c :
    gives { start 0 [0x13, 0x05] [] [] with flags := ⟨true, true, true, true⟩ } fun t =>
      t.pc == 2 && !t.flags.z && t.flags.s && !t.flags.c && t.flags.o := by
  decide +kernel

theorem test_yield_255 :
    gives (start 0 [0x15, 0xFF] [] []) fun t =>
      t.pc == 2 && t.cycles == 1 := by
  decide +kernel

theorem test_cache_2 :
    gives (start 0 [0x16, 0x02] [] []) fun t =>
      t.pc == 2 := by
  decide +kernel

theorem test_movi_negative :
    gives (start 0 [0x18, 0x01, 0x80] [] []) fun t =>
      t.pc == 3 && t.getX 1 == 0xFFFFFF80 := by
  decide +kernel

theorem test_addi_1 :
    gives (start 0 [0x19, 0x01, 0xFF] [(1, 0x0)] []) fun t =>
      t.pc == 3 && t.getX 1 == 0xFFFFFFFF := by
  decide +kernel

theorem test_subi_128 :
    gives (start 0 [0x1A, 0x01, 0x80] [(1, 0x0)] []) fun t =>
      t.pc == 3 && t.getX 1 == 0x80 := by
  decide +kernel

theorem test_andi_zero_extends :
    gives (start 0 [0x1B, 0x01, 0xF0] [(1, 0xFFFFFFFF)] []) fun t =>
      t.pc == 3 && t.getX 1 == 0xF0 := by
  decide +kernel

theorem test_ori_zero_extends :
    gives (start 0 [0x1C, 0x01, 0x80] [(1, 0x0)] []) fun t =>
      t.pc == 3 && t.getX 1 == 0x80 := by
  decide +kernel

theorem test_xori :
    gives (start 0 [0x1D, 0x01, 0xFF] [(1, 0xF0)] []) fun t =>
      t.pc == 3 && t.getX 1 == 0xF := by
  decide +kernel

theorem test_shli_loses_the_top_bit :
    gives (start 0 [0x1E, 0x01, 0x01] [(1, 0x80000001)] []) fun t =>
      t.pc == 3 && t.getX 1 == 0x2 := by
  decide +kernel

theorem test_shri_arithmetic :
    gives (start 0 [0x1F, 0x01, 0x02] [(1, 0xFFFFFFF0)] []) fun t =>
      t.pc == 3 && t.getX 1 == 0xFFFFFFFC := by
  decide +kernel

theorem test_add :
    gives (start 0 [0x20, 0x03, 0x01, 0x02] [(1, 0x2), (2, 0x3)] []) fun t =>
      t.pc == 4 && t.getX 3 == 0x5 && !t.flags.z && !t.flags.s := by
  decide +kernel

theorem test_add_reads_before_it_writes :
    gives (start 0 [0x20, 0x03, 0x03, 0x05] [(3, 0xA), (5, 0x20)] []) fun t =>
      t.pc == 4 && t.getX 3 == 0x2A := by
  decide +kernel

theorem test_sub_below_zero :
    gives (start 0 [0x21, 0x03, 0x01, 0x02] [(1, 0x3), (2, 0x5)] []) fun t =>
      t.pc == 4 && t.getX 3 == 0xFFFFFFFE && !t.flags.z && t.flags.s := by
  decide +kernel

theorem test_mul_signed :
    gives (start 0 [0x22, 0x03, 0x01, 0x02] [(1, 0xFFFFFFFD), (2, 0x7)] []) fun t =>
      t.pc == 4 && t.getX 3 == 0xFFFFFFEB && !t.flags.z && t.flags.s := by
  decide +kernel

theorem test_div_mixed_sign_div_mode_trunc :
    gives (start 0 [0x23, 0x03, 0x01, 0x02] [(1, 0xFFFFFFF9), (2, 0x2)] []) fun t =>
      t.pc == 4 && t.getX 3 == 0xFFFFFFFD := by
  decide +kernel

theorem test_div_by_zero :
    faults (start 0 [0x23, 0x03, 0x01, 0x02] [(1, 0x7), (2, 0x0), (3, 0x9)] []) (.divideByZero 0) := by
  decide +kernel

theorem test_mod_mixed_sign_trunc :
    gives (start 0 [0x24, 0x03, 0x01, 0x02] [(1, 0xFFFFFFF9), (2, 0x2)] []) fun t =>
      t.pc == 4 && t.getX 3 == 0xFFFFFFFF := by
  decide +kernel

theorem test_mod_mixed_sign_floor :
    gives { start 0 [0x24, 0x03, 0x01, 0x02] [(1, 0xFFFFFFF9), (2, 0x2)] [] with params := { Params.default with divMode := .floor } } fun t =>
      t.pc == 4 && t.getX 3 == 0x1 := by
  decide +kernel

theorem test_and :
    gives (start 0 [0x25, 0x03, 0x01, 0x02] [(1, 0xFF), (2, 0xF)] []) fun t =>
      t.pc == 4 && t.getX 3 == 0xF && !t.flags.z && !t.flags.s := by
  decide +kernel

theorem test_or :
    gives (start 0 [0x26, 0x03, 0x01, 0x02] [(1, 0xF0), (2, 0xF)] []) fun t =>
      t.pc == 4 && t.getX 3 == 0xFF := by
  decide +kernel

theorem test_xor_self :
    gives (start 0 [0x27, 0x03, 0x01, 0x01] [(1, 0xFF)] []) fun t =>
      t.pc == 4 && t.getX 3 == 0x0 && t.flags.z && !t.flags.s := by
  decide +kernel

theorem test_shl_count_32 :
    gives (start 0 [0x28, 0x03, 0x01, 0x02] [(1, 0x3), (2, 0x20)] []) fun t =>
      t.pc == 4 && t.getX 3 == 0x0 && t.flags.z && !t.flags.s := by
  decide +kernel

theorem test_shl_count_64_masks_to_0 :
    gives (start 0 [0x28, 0x03, 0x01, 0x02] [(1, 0x3), (2, 0x40)] []) fun t =>
      t.pc == 4 && t.getX 3 == 0x3 := by
  decide +kernel

theorem test_shr_arithmetic :
    gives (start 0 [0x29, 0x03, 0x01, 0x02] [(1, 0xFFFFFF00), (2, 0x4)] []) fun t =>
      t.pc == 4 && t.getX 3 == 0xFFFFFFF0 && !t.flags.z && t.flags.s := by
  decide +kernel

theorem test_min_signed :
    gives (start 0 [0x2A, 0x03, 0x01, 0x02] [(1, 0xFFFFFFFF), (2, 0x1)] []) fun t =>
      t.pc == 4 && t.getX 3 == 0xFFFFFFFF && !t.flags.z && t.flags.s := by
  decide +kernel

theorem test_max_signed :
    gives (start 0 [0x2B, 0x03, 0x01, 0x02] [(1, 0xFFFFFFFF), (2, 0x1)] []) fun t =>
      t.pc == 4 && t.getX 3 == 0x1 := by
  decide +kernel

theorem test_cmp_eq :
    gives (start 0 [0x2C, 0x03, 0x01, 0x02] [(1, 0x5), (2, 0x5)] []) fun t =>
      t.pc == 4 && t.getX 3 == 0x1 := by
  decide +kernel

theorem test_cmp_lt_signed :
    gives (start 0 [0x2D, 0x03, 0x01, 0x02] [(1, 0xFFFFFFFF), (2, 0x1)] []) fun t =>
      t.pc == 4 && t.getX 3 == 0x1 := by
  decide +kernel

theorem test_cmp_gt_signed :
    gives (start 0 [0x2E, 0x03, 0x01, 0x02] [(1, 0xFFFFFFFF), (2, 0x1)] []) fun t =>
      t.pc == 4 && t.getX 3 == 0x0 := by
  decide +kernel

theorem test_cmp_ne :
    gives (start 0 [0x2F, 0x03, 0x01, 0x02] [(1, 0x5), (2, 0x5)] []) fun t =>
      t.pc == 4 && t.getX 3 == 0x0 := by
  decide +kernel

theorem test_fadd_1_5_2_25 :
    gives (start 0 [0x30, 0x20, 0x21, 0x22] [(33, 0x3FC00000), (34, 0x40100000)] []) fun t =>
      t.pc == 4 && t.getX 32 == 0x40700000 := by
  decide +kernel

theorem test_fsub_5_5_1_5 :
    gives (start 0 [0x31, 0x20, 0x21, 0x22] [(33, 0x40B00000), (34, 0x3FC00000)] []) fun t =>
      t.pc == 4 && t.getX 32 == 0x40800000 := by
  decide +kernel

theorem test_fmul_1_5_2_0 :
    gives (start 0 [0x32, 0x20, 0x21, 0x22] [(33, 0x3FC00000), (34, 0x40000000)] []) fun t =>
      t.pc == 4 && t.getX 32 == 0x40400000 := by
  decide +kernel

theorem test_fdiv_3_0_0_75 :
    gives (start 0 [0x33, 0x20, 0x21, 0x22] [(33, 0x40400000), (34, 0x3F400000)] []) fun t =>
      t.pc == 4 && t.getX 32 == 0x40800000 := by
  decide +kernel

theorem test_fdiv_by_0_0 :
    faults (start 0 [0x33, 0x20, 0x21, 0x22] [(33, 0x40400000), (34, 0x80000000)] []) (.divideByZero 0) := by
  decide +kernel

theorem test_fmin_1_5_1_0 :
    gives (start 0 [0x34, 0x20, 0x21, 0x22] [(33, 0x3FC00000), (34, 0xBF800000)] []) fun t =>
      t.pc == 4 && t.getX 32 == 0xBF800000 := by
  decide +kernel

theorem test_fmax_1_5_1_0 :
    gives (start 0 [0x35, 0x20, 0x21, 0x22] [(33, 0x3FC00000), (34, 0xBF800000)] []) fun t =>
      t.pc == 4 && t.getX 32 == 0x3FC00000 := by
  decide +kernel

theorem test_ftoi_2_0 :
    gives (start 0 [0x36, 0x01, 0x21, 0x00] [(33, 0xC0000000)] []) fun t =>
      t.pc == 4 && t.getX 1 == 0xFFFFFFFE := by
  decide +kernel

theorem test_ftoi_2_31 :
    refuses (start 0 [0x36, 0x01, 0x21, 0x00] [(33, 0x4F000000)] []) .ftoiRange := by
  decide +kernel

theorem test_itof_1 :
    gives (start 0 [0x37, 0x20, 0x01, 0x00] [(1, 0xFFFFFFFF)] []) fun t =>
      t.pc == 4 && t.getX 32 == 0xBF800000 := by
  decide +kernel

theorem test_store_little_endian :
    gives (start 0 [0x39, 0x02, 0x01, 0x00] [(1, 0x1000), (2, 0xBEEF)] []) fun t =>
      t.pc == 4 && t.mem.bytes 4096 4 == [0xEF, 0xBE, 0x00, 0x00] := by
  decide +kernel

theorem test_load_misaligned :
    gives (start 0 [0x38, 0x03, 0x01, 0x00] [(1, 0x1001)] [(0x1000, [0x00, 0x11, 0x22, 0x33, 0x44, 0x55, 0x66, 0x77])]) fun t =>
      t.pc == 4 && t.getX 3 == 0x44332211 := by
  decide +kernel

theorem test_load_across_the_end :
    faults (start 0 [0x38, 0x03, 0x01, 0x00] [(1, 0xFFFD)] []) (.memoryFault 65533) := by
  decide +kernel

theorem test_mov :
    gives (start 0 [0x3A, 0x02, 0x01, 0x00] [(1, 0x7)] []) fun t =>
      t.pc == 4 && t.getX 2 == 0x7 := by
  decide +kernel

theorem test_swp :
    gives (start 0 [0x3B, 0x01, 0x02, 0x00] [(1, 0x1), (2, 0x2)] []) fun t =>
      t.pc == 4 && t.getX 1 == 0x2 && t.getX 2 == 0x1 := by
  decide +kernel

theorem test_swp_with_r0 :
    gives (start 0 [0x3B, 0x01, 0x00, 0x00] [(1, 0x9)] []) fun t =>
      t.pc == 4 && t.getX 1 == 0x0 && t.getX 0 == 0x0 := by
  decide +kernel

theorem test_jz_taken :
    gives (start 10 [0x3C, 0x01, 0x02, 0x00] [(1, 0x0), (2, 0x6)] []) fun t =>
      t.pc == 20 := by
  decide +kernel

theorem test_jnz_taken_backward :
    gives (start 12 [0x3D, 0x01, 0x03, 0x00] [(1, 0x4), (3, 0xFFFFFFF6)] []) fun t =>
      t.pc == 6 := by
  decide +kernel

theorem test_jlt_taken :
    gives (start 0 [0x3E, 0x01, 0x02, 0x00] [(1, 0x80000000), (2, 0x8)] []) fun t =>
      t.pc == 12 := by
  decide +kernel

theorem test_jgt_taken :
    gives (start 0 [0x3F, 0x01, 0x02, 0x00] [(1, 0x1), (2, 0x8)] []) fun t =>
      t.pc == 12 := by
  decide +kernel

theorem test_movi16_is_unsigned :
    gives (start 0 [0x40, 0x01, 0xFF, 0xFF] [] []) fun t =>
      t.pc == 4 && t.getX 1 == 0xFFFF := by
  decide +kernel

theorem test_addi16_unsigned :
    gives (start 0 [0x41, 0x01, 0xFF, 0xFF] [(1, 0x1)] []) fun t =>
      t.pc == 4 && t.getX 1 == 0x10000 := by
  decide +kernel

theorem test_subi16 :
    gives (start 0 [0x42, 0x01, 0x01, 0x00] [(1, 0x0)] []) fun t =>
      t.pc == 4 && t.getX 1 == 0xFFFFFFFF := by
  decide +kernel

theorem test_jmp_offset_4 :
    gives (start 8 [0x43, 0x00, 0xFC, 0xFF] [] []) fun t =>
      t.pc == 8 := by
  decide +kernel

theorem test_jal :
    gives (start 8 [0x44, 0x0F, 0x10, 0x00] [] []) fun t =>
      t.pc == 28 && t.getX 15 == 0xC := by
  decide +kernel

theorem test_call_register_base :
    gives (start 0 [0x45, 0x01, 0x04, 0x00] [(1, 0x20)] []) fun t =>
      t.pc == 36 && t.mem.bytes 65532 4 == [0x04, 0x00, 0x00, 0x00] && t.sp == 0xFFFC := by
  decide +kernel

theorem test_loop_taken :
    gives (start 10 [0x46, 0x02, 0x07, 0x00] [(2, 0x4)] []) fun t =>
      t.pc == 7 && t.getX 2 == 0x3 := by
  decide +kernel

theorem test_loop_falls_through_at_1 :
    gives (start 10 [0x46, 0x02, 0x07, 0x00] [(2, 0x1)] []) fun t =>
      t.pc == 14 && t.getX 2 == 0x0 := by
  decide +kernel

theorem test_select_negative_index :
    gives (start 20 [0x47, 0x01, 0x04, 0x00] [(1, 0xFFFFFFFF)] []) fun t =>
      t.pc == 20 := by
  decide +kernel

theorem test_loadoff_negative_displacement :
    gives (start 0 [0x48, 0x03, 0x01, 0xFC, 0xFF] [(1, 0x104)] [(0x100, [0xEF, 0xBE, 0x00, 0x00])]) fun t =>
      t.pc == 5 && t.getX 3 == 0xBEEF := by
  decide +kernel

theorem test_storeoff :
    gives (start 0 [0x49, 0x03, 0x01, 0x08, 0x00] [(1, 0x100), (3, 0x1020304)] []) fun t =>
      t.pc == 5 && t.mem.bytes 264 4 == [0x04, 0x03, 0x02, 0x01] := by
  decide +kernel

theorem test_loadi :
    gives (start 0 [0x4A, 0x03, 0x01, 0x04, 0x00] [(1, 0x200)] [(0x200, [0x00, 0x03, 0x00, 0x00]), (0x304, [0x2A, 0x00, 0x00, 0x00])]) fun t =>
      t.pc == 5 && t.getX 3 == 0x2A := by
  decide +kernel

theorem test_storei :
    gives (start 0 [0x4B, 0x03, 0x01, 0x04, 0x00] [(1, 0x200), (3, 0x55)] [(0x200, [0x00, 0x03, 0x00, 0x00])]) fun t =>
      t.pc == 5 && t.mem.bytes 772 4 == [0x55, 0x00, 0x00, 0x00] := by
  decide +kernel

theorem test_copy_overlapping_destination_below_source :
    gives (start 0 [0x4E, 0x01, 0x02, 0x04, 0x00] [(1, 0x10), (2, 0x12)] [(0x10, [0x01, 0x02, 0x03, 0x04, 0x05, 0x06])]) fun t =>
      t.pc == 5 && t.mem.bytes 16 6 == [0x03, 0x04, 0x05, 0x06, 0x05, 0x06] := by
  decide +kernel

theorem test_copy_overlapping_destination_inside_source :
    refuses (start 0 [0x4E, 0x01, 0x02, 0x04, 0x00] [(1, 0x12), (2, 0x10)] []) .copyOverlap := by
  decide +kernel

theorem test_fill :
    gives (start 0 [0x4F, 0x01, 0x02, 0x03, 0x00] [(1, 0x40), (2, 0xAA)] []) fun t =>
      t.pc == 5 && t.mem.bytes 64 4 == [0xAA, 0xAA, 0xAA, 0x00] := by
  decide +kernel

theorem test_fill_value_above_255 :
    refuses (start 0 [0x4F, 0x01, 0x02, 0x03, 0x00] [(1, 0x40), (2, 0x100)] []) .fillValue := by
  decide +kernel

theorem test_jmpl :
    gives (start 16 [0xE0, 0x00, 0xF8, 0xFF] [] []) fun t =>
      t.pc == 12 := by
  decide +kernel

theorem test_jall :
    gives (start 16 [0xE1, 0x0F, 0x00, 0x01] [] []) fun t =>
      t.pc == 276 && t.getX 15 == 0x14 := by
  decide +kernel

theorem test_calll :
    gives (start 16 [0xE2, 0x00, 0x40, 0x00] [(11, 0x10000)] []) fun t =>
      t.pc == 64 && t.mem.bytes 65532 4 == [0x14, 0x00, 0x00, 0x00] && t.sp == 0xFFFC := by
  decide +kernel

theorem test_atomic :
    gives (start 0 [0xD4, 0x02, 0x01, 0x04, 0x00] [(1, 0x100), (2, 0x5)] [(0x104, [0x09, 0x00, 0x00, 0x00])]) fun t =>
      t.pc == 5 && t.mem.bytes 260 4 == [0x05, 0x00, 0x00, 0x00] && t.getX 2 == 0x9 := by
  decide +kernel

theorem test_abs_int_min :
    gives (start 0 [0x90, 0x02, 0x01, 0x00] [(1, 0x80000000)] []) fun t =>
      t.pc == 4 && t.getX 2 == 0x80000000 && !t.flags.z && t.flags.s && !t.flags.c := by
  decide +kernel

theorem test_sign_negative :
    gives (start 0 [0x91, 0x02, 0x01, 0x00] [(1, 0xFFFFFFF7)] []) fun t =>
      t.pc == 4 && t.getX 2 == 0xFFFFFFFF && !t.flags.z && !t.flags.s && !t.flags.c := by
  decide +kernel

theorem test_sign_zero :
    gives { start 0 [0x91, 0x02, 0x01, 0x00] [(1, 0x0)] [] with flags := ⟨false, true, false, false⟩ } fun t =>
      t.pc == 4 && t.getX 2 == 0x0 && t.flags.z && t.flags.s && !t.flags.c := by
  decide +kernel

theorem test_sqrt_int_max :
    gives (start 0 [0x92, 0x02, 0x01, 0x00] [(1, 0x7FFFFFFF)] []) fun t =>
      t.pc == 4 && t.getX 2 == 0xB504 := by
  decide +kernel

theorem test_pow :
    gives (start 0 [0x93, 0x03, 0x01, 0x02] [(1, 0xFFFFFFFD), (2, 0x3)] []) fun t =>
      t.pc == 4 && t.getX 3 == 0xFFFFFFE5 && !t.flags.z && t.flags.s && !t.flags.c := by
  decide +kernel

theorem test_pow_2_31 :
    refuses (start 0 [0x93, 0x03, 0x01, 0x02] [(1, 0x2), (2, 0x1F)] []) .powOverflow := by
  decide +kernel

theorem test_log2 :
    gives (start 0 [0x94, 0x02, 0x01, 0x00] [(1, 0x3E8)] []) fun t =>
      t.pc == 4 && t.getX 2 == 0x9 && !t.flags.z && !t.flags.s && !t.flags.c := by
  decide +kernel

theorem test_log2_of_0 :
    faults (start 0 [0x94, 0x02, 0x01, 0x00] [(1, 0x0)] []) (.domainError 0) := by
  decide +kernel

theorem test_clz :
    gives (start 0 [0x95, 0x02, 0x01, 0x00] [(1, 0x10000)] []) fun t =>
      t.pc == 4 && t.getX 2 == 0xF := by
  decide +kernel

theorem test_ctz :
    gives (start 0 [0x96, 0x02, 0x01, 0x00] [(1, 0x18)] []) fun t =>
      t.pc == 4 && t.getX 2 == 0x3 := by
  decide +kernel

theorem test_ctz_of_0 :
    gives (start 0 [0x96, 0x02, 0x01, 0x00] [(1, 0x0)] []) fun t =>
      t.pc == 4 := by
  decide +kernel

theorem test_popcnt :
    gives (start 0 [0x97, 0x02, 0x01, 0x00] [(1, 0xF0F0)] []) fun t =>
      t.pc == 4 && t.getX 2 == 0x8 := by
  decide +kernel

theorem test_crc32_of_123456789 :
    gives { start 0 [0x98, 0x03, 0x01, 0x02] [(1, 0x100), (2, 0x9)] [(0x100, [0x31, 0x32, 0x33, 0x34, 0x35, 0x36, 0x37, 0x38, 0x39])] with params := { Params.default with crc32 := .common } } fun t =>
      t.pc == 4 && t.getX 3 == 0xCBF43926 := by
  decide +kernel

theorem test_crc32_range_out_of_bounds :
    faults (start 0 [0x98, 0x03, 0x01, 0x02] [(1, 0xFFFF), (2, 0x2)] []) (.memoryFault 65535) := by
  decide +kernel

theorem test_rnd_empty_range :
    refuses (start 0 [0x9A, 0x03, 0x01, 0x02] [(1, 0x7), (2, 0x6)] []) .rndEmptyRange := by
  decide +kernel

theorem test_seed_first :
    gives (start 0 [0x9B, 0x02, 0x01, 0x00] [(1, 0x2A)] []) fun t =>
      t.pc == 4 && t.getX 2 == 0x0 && t.seed == some 0x2A := by
  decide +kernel

theorem test_seed_second :
    gives { start 0 [0x9B, 0x03, 0x00, 0x00] [] [] with seed := some 0x2A } fun t =>
      t.pc == 4 && t.getX 3 == 0x2A && t.seed == some 0x0 := by
  decide +kernel

theorem test_fsqrt_4_0 :
    gives (start 0 [0x9D, 0x20, 0x21, 0x00] [(33, 0x40800000)] []) fun t =>
      t.pc == 4 && t.getX 32 == 0x40000000 := by
  decide +kernel

theorem test_fsqrt_1_0 :
    faults (start 0 [0x9D, 0x20, 0x21, 0x00] [(33, 0xBF800000)] []) (.domainError 0) := by
  decide +kernel

theorem test_fmod_5_5_by_2_0 :
    gives (start 0 [0x9C, 0x20, 0x21, 0x22] [(33, 0x40B00000), (34, 0x40000000)] []) fun t =>
      t.pc == 4 && !t.flags.s := by
  decide +kernel

theorem test_fsin_0 :
    gives (start 0 [0x9E, 0x20, 0x21, 0x00] [(33, 0x0)] []) fun t =>
      t.pc == 4 && !t.flags.s := by
  decide +kernel

theorem test_fcos_0 :
    gives (start 0 [0x9F, 0x20, 0x21, 0x00] [(33, 0x0)] []) fun t =>
      t.pc == 4 && !t.flags.s := by
  decide +kernel

theorem test_c_add :
    gives (((start 0 [0x60, 0x03, 0x01, 0x02] [(1, 0x2), (2, 0x3)] []).setC 1 Conf.one).setC 2 half) fun t =>
      t.pc == 4 && t.getX 3 == 0x5 && (t.getC 3).val == 1 / 2 && !t.flags.z && !t.flags.s := by
  decide +kernel

theorem test_c_sub :
    gives (((start 0 [0x61, 0x03, 0x01, 0x02] [(1, 0x2), (2, 0x3)] []).setC 1 quarter).setC 2 half) fun t =>
      t.pc == 4 && t.getX 3 == 0xFFFFFFFF && (t.getC 3).val == 1 / 4 := by
  decide +kernel

theorem test_c_mul :
    gives (({ start 0 [0x62, 0x03, 0x01, 0x02] [(1, 0x6), (2, 0x7)] [] with params := exactConf }.setC 1 half).setC 2 half) fun t =>
      t.pc == 4 && t.getX 3 == 0x2A && (t.getC 3).val == 1 / 4 := by
  decide +kernel

theorem test_c_div_by_zero :
    faults ((((start 0 [0x63, 0x03, 0x01, 0x02] [(1, 0x14), (2, 0x0)] []).setC 1 Conf.one).setC 2 Conf.one).setC 3 quarter) (.divideByZero 0) := by
  decide +kernel

theorem test_c_fadd :
    gives (((start 0 [0x64, 0x20, 0x21, 0x22] [(33, 0x3FC00000), (34, 0x40100000)] []).setC 33 half).setC 34 quarter) fun t =>
      t.pc == 4 && t.getX 32 == 0x40700000 && (t.getC 32).val == 1 / 4 := by
  decide +kernel

theorem test_c_thresh_skips :
    gives ({ start 0 [0x69, 0x01, 0x80, 0x08, 0x02, 0x00] [] [] with params := exactConf }.setC 1 half) fun t =>
      t.pc == 5 && t.cycles == 1 := by
  decide +kernel

theorem test_c_thresh_with_nothing_to_skip :
    faults ({ start 0 [0x69, 0x01, 0xFF] [] [] with params := exactConf }.setC 1 half) (.fetchFault 3) := by
  decide +kernel

theorem test_conf_st :
    gives { start 0 [0x0F, 0x05] [] [] with cacc := half } fun t =>
      t.pc == 2 && (t.getC 5).val == 1 / 2 && t.getX 5 == 0x0 := by
  decide +kernel

theorem test_conf_ld :
    gives ((start 0 [0x0E, 0x04] [] []).setC 4 half) fun t =>
      t.pc == 2 && t.cacc.val == 1 / 2 := by
  decide +kernel

theorem test_tell :
    refuses (start 0 [0x50, 0x01, 0x02, 0x03] [] []) (.noHandler "TELL") := by
  decide +kernel

theorem test_sense :
    refuses (start 0 [0x80, 0x01, 0x02, 0x03] [] []) (.noDevice "SENSE") := by
  decide +kernel

theorem test_tmatmul :
    refuses (start 0 [0xC0, 0x01, 0x02, 0x03] [] []) (.nameOnly "TMATMUL") := by
  decide +kernel

theorem test_slice_truncated_to_4_bytes :
    faults (start 0 [0xA4, 0x01, 0x02, 0x03] [] []) (.fetchFault 0) := by
  decide +kernel

theorem test_negative_pc :
    faults { start 0 [0x01] [] [] with pc := -3 } (.fetchFault (-3)) := by
  decide +kernel

/-- 47_extmath_collection.md R470: with equal bounds the one value of the range. -/
theorem test_rnd_one_value (w : Word) : inRange 7 7 w = 7 := by
  simp [inRange, wrap32]

-- C_DIV, C_FSUB, C_FMUL, C_FDIV: 48_confidence_a2a.md R515, R517 to R519 with the operands of the rows above.
theorem test_c_div :
    gives (({ start 0 [0x63, 3, 1, 2] [(1, 20), (2, 6)] [] with params := exactConf }.setC 1 half).setC 2 half) fun t =>
      t.getX 3 == 3 && (t.getC 3).val == 99 / 400 := by
  decide +kernel

theorem test_c_fsub :
    gives (((start 0 [0x65, 32, 33, 34] [(33, 0x40B00000), (34, 0x3FC00000)] []).setC 33 half).setC 34 quarter) fun t =>
      t.getX 32 == 0x40800000 && t.getC 32 == quarter := by
  decide +kernel

theorem test_c_fmul :
    gives (({ start 0 [0x66, 32, 33, 34] [(33, 0x3FC00000), (34, 0x40000000)] [] with params := exactConf }.setC 33 half).setC
      34 half) fun t => t.getX 32 == 0x40400000 && t.getC 32 == quarter := by
  decide +kernel

theorem test_c_fdiv :
    gives (({ start 0 [0x67, 32, 33, 34] [(33, 0x40400000), (34, 0x3F400000)] [] with params := exactConf }.setC 33 half).setC
      34 Conf.one) fun t => t.getX 32 == 0x40800000 && (t.getC 32).val == 99 / 200 := by
  decide +kernel

/-! ### (4) Witnesses: the hypotheses of each obligation that has any, met together -/

/-- A NOP to run, SP one word below the top of the stack, a pointer in R1, a small number in R2. -/
def base : State := start 0 [0x01] [(1, 0x100), (2, 7), (11, 65532)] []

/-- `base` with other registers. -/
def withR (regs : List (Byte × Word)) : State := regs.foldl (fun s r => s.setX r.1 r.2) base

/-- Registers R1, R2, R0, R47 and SP are 32-bit registers of `withR regs`, whatever they hold. -/
theorem regs32 (regs : List (Byte × Word)) : Regs32 (withR regs) [1, 2, 0, 47, 11] := by
  have h : ∀ (l : List (Byte × Word)) (s : State), (l.foldl (fun s r => s.setX r.1 r.2) s).params = s.params := by
    intro l
    induction l with
    | nil => exact fun _ => rfl
    | cons r l ih => exact fun s => ih _
  have hp : (withR regs).params = base.params := h regs base
  unfold Regs32
  rw [hp]
  decide +kernel

theorem witness_EncodeOfDecode : decode .little [0x20, 3, 1, 2, 7] = .ok (.add 3 1 2, [7]) := by rfl

theorem witness_DecodeByOpcodeByteAlone : opLength 0xDF = none ∧ opLength 0x48 = some 5 ∧
    5 ≤ [(1 : Byte), 2, 3, 4].length + 1 ∧ [(1 : Byte), 2, 3].length + 1 < 5 := by decide +kernel

theorem runs_base : Runs base := ⟨by decide +kernel, by decide +kernel⟩

theorem witness_StepRunsDecodedInstruction :
    Runs base ∧ decode base.params.imm16Order (base.codeFrom base.pc) = .ok (.nop, []) := ⟨runs_base, by rfl⟩

theorem witness_StepRunsPlacedWord : State.reset.params.imm16Order = .little ∧
    decodeTableWord 32 0x02010320 = some (.add 3 1 2) := by decide +kernel

/-- `pc` below the bytecode, at its end, and at an opcode whose last byte is missing. -/
theorem witness_FetchOutsideBytecodeFaults :
    (Runs { base with pc := -1 }) ∧ (Runs { base with pc := 1 } ∧ (base.code.length : Int) ≤ 1) ∧
    (Runs (start 0 [0x20, 1, 2] [] []) ∧ opLength 0x20 = some 4 ∧
      (start 0 [0x20, 1, 2] [] []).code[0]? = some 0x20) := by
  refine ⟨⟨by decide +kernel, by decide +kernel⟩, ⟨⟨by decide +kernel, by decide +kernel⟩, by decide +kernel⟩,
    ⟨by decide +kernel, by decide +kernel⟩, by decide +kernel, by decide +kernel⟩

/-- Both sides of the equivalence hold of 0xDF as the last byte. -/
theorem witness_IllegalOpcodeExactlyAtReservedSlots :
    step (start 0 [0xDF] [] []) = .fault (.illegalOpcode 0xDF) ∧ Runs (start 0 [0xDF] [] []) :=
  ⟨by rfl, by decide +kernel, by decide +kernel⟩

theorem witness_StepCountsOneCycle :
    (step base = .next { base with pc := 1, cycles := 1 } ∧ Runs base) ∧
    (step { base with halted := true } = .next { base with halted := true } ∧ ¬ Runs { base with halted := true }) :=
  ⟨⟨by rfl, runs_base⟩, by rfl, fun h => by simpa using h.1⟩

theorem witness_WfiAloneIsStuck : (start 0 [0x05] [] []).status = .stuck ∧ Runs (start 0 [0x05] [] []) :=
  ⟨by rfl, by decide +kernel, by decide +kernel⟩

theorem witness_InvariantKeptByEveryStep : base.Inv ∧ step base = .next { base with pc := 1, cycles := 1 } :=
  ⟨⟨by decide +kernel, by decide +kernel, by decide +kernel, by decide +kernel, by decide +kernel⟩, by rfl⟩

theorem witness_InitialStateValues : ((47 : Byte) ≠ 11) ∧ ([] : List Byte) = [] ∧ 0 < Params.default.maxCycles := by decide

theorem witness_NoInstructionWritesCodeOrRegions : step base = .next { base with pc := 1, cycles := 1 } := by rfl

/-- `halted` set before; set by HALT; set by RET. -/
theorem witness_OnlyHaltAndRetHalt :
    exec .nop { base with halted := true } = .next { base with pc := 1, halted := true } ∧
    (base.halted = false ∧ exec .halt base = .next { base with pc := 1, halted := true }) ∧
    exec .ret (start 0 [0x02] [] []) = .next { start 0 [0x02] [] [] with pc := 1, halted := true } :=
  ⟨by rfl, ⟨by rfl, by rfl⟩, by rfl⟩

theorem witness_OnlyTheirInstructionsWrite : exec .nop base = .next { base with pc := 1 } ∧
    opcodeOf .nop ∉ [0x0F, 0x60, 0x61, 0x62, 0x63, 0x64, 0x65, 0x66, 0x67, 0x06] ∧ opcodeOf .nop ∉ [0x0E, 0x06] ∧
    opcodeOf .nop ≠ 0x9B ∧ opcodeOf .nop ≠ 0x12 ∧
    opcodeOf .nop ∉ [0x0C, 0x39, 0x45, 0xE2, 0x49, 0x4B, 0x4E, 0x4F, 0xD4] :=
  ⟨by rfl, by decide +kernel⟩

theorem witness_FlagsUnchangedByDataMovesAndTransfers : exec .nop base = .next { base with pc := 1 } ∧
    opcodeOf .nop ∈ [0x00, 0x01, 0x02] := ⟨by rfl, by decide +kernel⟩

/-- One of each fault. -/
theorem witness_FaultsOnlyFromTheirInstructions :
    exec .illegal base = .fault (.illegalOpcode 0xFF) ∧ exec (.load 1 11 1) base = .fault (.memoryFault 65788) ∧
    exec (.cThresh 1 255) { base with pc := 9 } = .fault (.fetchFault 12) ∧
    exec (.div 1 2 0) base = .fault (.divideByZero 0) ∧ exec (.log2 1 0 0) base = .fault (.domainError 0) ∧
    exec .brk base = .fault (.breakpoint 0) ∧ exec .wfi base = .fault (.stuck 0) := by
  refine ⟨by rfl, by rfl, ?_, by rfl, by rfl, by rfl, by rfl⟩
  have h : Conf.lt (base.getC 1) (Conf.ofByte base.params.conf 255) = true := by decide +kernel
  have hc : NamesCell { base with pc := 9 } 1 := by unfold NamesCell; decide +kernel
  exact (withCell_of hc _).trans ((if_pos (e := finish { base with pc := 9 } 3) h).trans (by rfl))

/-- An instruction with each defect. -/
theorem witness_IllFormedInstructionsStop :
    (Instr.illegal).defect base.params.nreg = some .noInstruction ∧
    (Instr.add 1 2 64).defect base.params.nreg = some .registerOutOfRange ∧
    (Instr.add 63 2 1).defect base.params.nreg = some .vectorRegisterAs32Bit ∧
    (Instr.pop 11).defect base.params.nreg = some .popIntoSP ∧
    (Instr.dbg 48).defect base.params.nreg = some .dbgOperand ∧
    (Instr.cache 3).defect base.params.nreg = some .cacheOperation ∧
    (Instr.shri 1 64).defect base.params.nreg = some .shiftCount ∧
    (Instr.atomic 1 2 0x8000).defect base.params.nreg = some .imm16Signedness := by decide +kernel

theorem witness_HaltNoOperationsDbgAndClf : (2 : Byte).toNat ≤ 2 ∧ (47 : Byte).toNat < 48 ∧
    (47 : Byte).toNat < base.params.nreg.count := by decide +kernel

/-- The empty stack, the last word inside memory, and the first SP above it. -/
theorem witness_RetHaltsOrPops : u32 (withR [(11, 65536)]).sp = 65536 ∧ u32 (withR [(11, 65532)]).sp + 4 ≤ 65536 ∧
    (65532 < u32 (withR [(11, 65533)]).sp ∧ u32 (withR [(11, 65533)]).sp ≠ 65536) := by decide +kernel

theorem witness_IncDecNotNeg : Regs32 base [47] := by unfold Regs32; decide +kernel

/-- SP where the pushed word is the first, the last, and none of memory; SP where the popped word is the last, and none. -/
theorem witness_PushAndPop :
    (Regs32 (withR [(11, 4)]) [1] ∧ (withR [(11, 4)]).mem.wf = true ∧ InMemory (u32 ((withR [(11, 4)]).sp - 4)) 4) ∧
    InMemory (u32 ((withR [(11, 65536)]).sp - 4)) 4 ∧ ¬ InMemory (u32 ((withR [(11, 3)]).sp - 4)) 4 ∧
    (u32 (withR [(11, 65532)]).sp + 4 ≤ 65536 ∧ 65536 < u32 (withR [(11, 65533)]).sp + 4) ∧
    (47 : Byte) ≠ 11 ∧ Regs32 (withR [(11, 65533)]) [47, 11] := by
  unfold Regs32 InMemory
  decide +kernel

theorem witness_ConfLdAndConfSt : NamesCell base 63 := by unfold NamesCell; decide +kernel

theorem witness_MovesImmediatesAndSwap : Regs32 base [47] ∧ Regs32 base [1, 2] ∧ Regs32 base [0, 0] := by
  unfold Regs32; decide +kernel

theorem witness_ImmediateArithmeticAndShifts : Regs32 base [47] ∧ (63 : Byte).toNat ≤ 63 ∧ 63 < (64 : Byte).toNat := by
  unfold Regs32; decide +kernel

theorem witness_IntegerArithmetic : Regs32 base [0, 47, 11] := by unfold Regs32; decide +kernel

theorem witness_IntegerComparisons : Regs32 base [0, 47, 11] := by unfold Regs32; decide +kernel

theorem witness_DivisionIdentity : Regs32 base [1, 1, 2] ∧ s32 (base.getX 2) ≠ 0 ∧ s32 (base.getX 0) = 0 ∧
    base.params.divMode = .trunc ∧ ({ base.params with divMode := .floor } : Params).divMode = .floor := by
  unfold Regs32; decide +kernel

/-- Divisors 1.0, +0.0 and -0.0; roots of 1.0 and of -1.0. -/
theorem witness_FloatInstructionsComplete : Regs32 base [32, 33, 34] ∧
    ((withR [(34, 0x3F800000)]).getX 34 ≠ 0x00000000 ∧ (withR [(34, 0x3F800000)]).getX 34 ≠ 0x80000000) ∧
    base.getX 34 = 0x00000000 ∧ (withR [(34, 0x80000000)]).getX 34 = 0x80000000 ∧
    Fnum.isNeg ((withR [(33, 0x3F800000)]).getX 33) = false ∧ Fnum.isNeg ((withR [(33, 0xBF800000)]).getX 33) = true := by
  unfold Regs32; decide +kernel

/-- 1.0 with 1.0 and 2.0: sum, product with 1.0, quotient, root, integer; 3.0 less 1.0. -/
theorem witness_FloatExactResults :
    (Fnum.isFinite 0x3F800000 = true ∧ Fnum.isFinite 0x40000000 = true ∧ realOf 0x40000000 ≠ 0) ∧
    realOf 0x3F800000 + realOf 0x3F800000 = realOf 0x40000000 ∧
    realOf 0x40400000 - realOf 0x3F800000 = realOf 0x40000000 ∧
    realOf 0x40000000 * realOf 0x3F800000 = realOf 0x40000000 ∧
    (realOf 0x3F800000 ≠ 0 ∧ realOf 0x40000000 / realOf 0x3F800000 = realOf 0x40000000) ∧
    (0 < realOf 0x40000000 ∧ realOf 0x40000000 * realOf 0x40000000 = realOf 0x40800000) ∧
    (s32 2 : Rat) = realOf 0x40000000 := by decide +kernel

theorem witness_FloatReadingMinMaxFmod : Fnum.isFinite 0x00000001 = true ∧ Fnum.isFinite 0x7F7FFFFF = true ∧
    realOf 0x00000001 < realOf 0x7F7FFFFF ∧ Fnum.isNaN 0x7F800000 = false ∧ Fnum.isZero 0x7F800000 = false := by
  decide +kernel

/-- -2^31, the largest binary32 below 2^31, 0.5, infinity, 2^31 and the first binary32 below -2^31. -/
theorem witness_FtoiConverts : Regs32 base [1, 33] ∧ (withR [(33, 0xCF000000)]).getX 33 = 0xCF000000 ∧
    (Fnum.isFinite 0xCF000000 = true ∧ realOf 0xCF000000 = (-2 ^ 31 : Int)) ∧
    (Fnum.isFinite 0x4EFFFFFF = true ∧ realOf 0x4EFFFFFF = (2147483520 : Int)) ∧
    (Fnum.isFinite 0x3F000000 = true ∧ realOf 0x3F000000 = 1 / 2) ∧ Fnum.isFinite 0x7F800000 = false ∧
    (Fnum.isFinite 0x4F000000 = true ∧ 2 ^ 31 - 1 < realOf 0x4F000000) ∧
    (Fnum.isFinite 0xCF000001 = true ∧ realOf 0xCF000001 < -2 ^ 31) := by
  unfold Regs32; decide +kernel

/-- 1/2 is the value of no integer: the second clause of the statement has a witness in 0x3F000000. -/
theorem witness_FtoiConverts_not_integral (k : Int) : realOf 0x3F000000 ≠ k := by
  have h : realOf 0x3F000000 = 1 / 2 := by decide +kernel
  rw [h]
  intro hk
  have h2 : ((2 * k : Int) : Rat) = ((1 : Int) : Rat) := by push_cast; rw [← hk]; norm_num
  have := Rat.intCast_injective h2
  omega

/-- The last word and the first address past it, for both address forms. -/
theorem witness_LoadsReadTheAddressedWord : Regs32 base [1, 11, 0] ∧
    InMemory (s32 (base.getX 11) + s32 (base.getX 0)) 4 ∧ ¬ InMemory (s32 (base.getX 11) + s32 (base.getX 2)) 4 ∧
    InMemory (s32 (base.getX 11) + (0 : Half).toInt) 4 ∧ ¬ InMemory (s32 (base.getX 11) + (1 : Half).toInt) 4 ∧
    InMemory (s32 (base.getX 1) + (0xFF00 : Half).toInt) 4 ∧ ¬ InMemory (s32 (base.getX 1) + (0xFEFF : Half).toInt) 4 := by
  unfold Regs32 InMemory; decide +kernel

theorem witness_StoresWriteTheAddressedWord : Regs32 base [1, 11, 0] ∧ base.mem.wf = true ∧
    InMemory (base.indexedAddr 11 0) 4 ∧ ¬ InMemory (base.indexedAddr 11 2) 4 ∧
    InMemory (base.offsetAddr 1 (0xFF00 : Half).toInt) 4 ∧ ¬ InMemory (base.offsetAddr 1 (0xFEFF : Half).toInt) 4 := by
  unfold Regs32 InMemory; decide +kernel

/-- A pointer at 0x100 to 0x8000: imm16 0x7FFC reaches the last word, 0x7FFD past it; a pointer past memory; imm16 0x8000. -/
theorem witness_IndirectAccessesAndAtomic :
    let s := start 0 [0x01] [(1, 0x100), (2, 0x8000), (3, 0x10000)] [(0x100, [0, 0x80])]
    Regs32 s [1, 2, 3] ∧ s.mem.wf = true ∧ InMemory (s32 (s.getX 1)) 4 ∧ ¬ InMemory (s32 (s.getX 3)) 4 ∧
    ((0x7FFC : Half).toNat < 0x8000 ∧ InMemory (s32 (s.mem.word 0x100) + (0x7FFC : Half).toNat) 4) ∧
    ((0x7FFD : Half).toNat < 0x8000 ∧ ¬ InMemory (s32 (s.mem.word 0x100) + (0x7FFD : Half).toNat) 4) ∧
    (InMemory (s.offsetAddr 2 (0x7FFC : Half).toNat) 4 ∧ ¬ InMemory (s.offsetAddr 2 (0x7FFD : Half).toNat) 4) ∧
    0x8000 ≤ (0x8000 : Half).toNat := by
  unfold Regs32 InMemory; decide +kernel

/-- Four bytes: to the last four; past them; from past them; upward onto the source; downward onto it; apart by their length. -/
theorem witness_CopyMovesTheSourceBytes :
    let s := start 0 [0x01] [(1, 0x10), (2, 0x13), (3, 0x14), (4, 65532), (5, 65533)] []
    Regs32 s [1, 2, 3, 4, 5] ∧ s.mem.wf = true ∧ (0 : Half).toNat = 0 ∧
    (InMemory (s.regAddr 4) 4 ∧ InMemory (s.regAddr 1) 4 ∧ ¬ (s.regAddr 1 < s.regAddr 4 ∧ s.regAddr 4 < s.regAddr 1 + 4)) ∧
    ¬ InMemory (s.regAddr 5) 4 ∧ (s.regAddr 1 < s.regAddr 2 ∧ s.regAddr 2 < s.regAddr 1 + 4) ∧
    ¬ (s.regAddr 2 < s.regAddr 1 ∧ s.regAddr 1 < s.regAddr 2 + 4) ∧
    ¬ (s.regAddr 1 < s.regAddr 3 ∧ s.regAddr 3 < s.regAddr 1 + 4) := by
  unfold Regs32 InMemory; decide +kernel

/-- The values 255 and 256; four bytes at the last four and past them. -/
theorem witness_FillWritesEveryByte :
    let s := start 0 [0x01] [(1, 255), (2, 256), (4, 65532), (5, 65533)] []
    Regs32 s [1, 2, 4, 5] ∧ s.mem.wf = true ∧ u32 (s.getX 1) ≤ 255 ∧ 255 < u32 (s.getX 2) ∧ (0 : Half).toNat = 0 ∧
    InMemory (s.regAddr 4) 4 ∧ ¬ InMemory (s.regAddr 5) 4 := by
  unfold Regs32 InMemory; decide +kernel

theorem witness_MemoryReadsWhatWasWritten : Memory.wf [(0xFFFC, 1)] = true ∧
    Memory.store32 [(0xFFFC, 1)] 0xFFFC 0x200 = some [(0xFFFD, 2)] ∧ Memory.wf [(0xFFFD, 2)] = true := by decide +kernel

theorem witness_ConditionalBranches : Regs32 base [47, 0] := by unfold Regs32; decide +kernel

theorem witness_JumpsAndLinks : Regs32 base [47] ∧ Regs32 base [0] := by unfold Regs32; decide +kernel

/-- SP where the pushed word is the first and the last of memory, and where there is none. -/
theorem witness_CallsPushTheReturnAddress : Regs32 base [1] ∧ base.mem.wf = true ∧
    InMemory (u32 ((withR [(11, 4)]).sp - 4)) 4 ∧ InMemory (u32 ((withR [(11, 65536)]).sp - 4)) 4 ∧
    ¬ InMemory (u32 ((withR [(11, 0)]).sp - 4)) 4 ∧ ¬ InMemory (u32 ((withR [(11, 65537)]).sp - 4)) 4 := by
  unfold Regs32 InMemory; decide +kernel

theorem witness_LoopAndSelect : Regs32 base [1] ∧ (0x7FFF : Half).toNat < 0x8000 ∧ 0x8000 ≤ (0x8000 : Half).toNat := by
  unfold Regs32; decide +kernel

theorem witness_ConfidenceArithmetic : Regs32 base [0, 1, 2] ∧ s32 (base.getX 2) ≠ 0 ∧ s32 (base.getX 0) = 0 ∧
    (base.getX 2 ≠ 0x00000000 ∧ base.getX 2 ≠ 0x80000000) ∧ base.getX 0 = 0x00000000 ∧
    (withR [(2, 0x80000000)]).getX 2 = 0x80000000 := by
  unfold Regs32; decide +kernel

theorem witness_ConfidenceLaws : (0 : Byte) ≤ 255 := by decide

/-- c[63] at 1/2 against 0x7F and 0x80; an instruction, a reserved slot, and nothing to skip. -/
theorem witness_ConfThreshSkipsOneInstruction :
    let s := { start 0 [0x69, 63, 0x80, 0x08, 2] [] [] with params := exactConf }.setC 63 half
    let r := { start 0 [0x69, 63, 0x80, 0xDF] [] [] with params := exactConf }.setC 63 half
    let e := { start 0 [0x69, 63, 0x80] [] [] with params := exactConf }.setC 63 half
    NamesCell s 63 ∧ (Conf.ofByte s.params.conf 0x7F).val ≤ (s.getC 63).val ∧
    (s.getC 63).val < (Conf.ofByte s.params.conf 0x80).val ∧ (s.code[3]? = some 0x08 ∧ opLength 0x08 = some 2) ∧
    (r.code[3]? = some 0xDF ∧ opLength 0xDF = none) ∧ (e.code.length : Int) ≤ e.pc + 3 := by
  unfold NamesCell; decide +kernel

/-- 0; 1, whose highest set bit is bit 0; the most negative number, whose highest set bit is bit 31. -/
theorem witness_AbsSignAndCounts : Regs32 base [47, 1] ∧ base.getX 3 = 0 ∧
    ((1 : Word).getLsbD (31 - 31) = true ∧ ∀ j < 32, 31 - 31 < j → (1 : Word).getLsbD j = false) ∧
    (0x80000000 : Word).getLsbD (31 - 0) = true := by
  unfold Regs32; decide +kernel

/-- The root of 2^31 - 1; a negative; powers at both ends of s32, one past each, and a negative exponent. -/
theorem witness_SqrtAndPow : Regs32 base [1, 2, 47] ∧
    ((46340 * 46340 : Int) ≤ s32 0x7FFFFFFF ∧ s32 0x7FFFFFFF < ((46340 + 1) * (46340 + 1) : Int)) ∧ s32 0xFFFFFFFF < 0 ∧
    (0 ≤ s32 31 ∧ -2 ^ 31 ≤ s32 0xFFFFFFFE ^ (s32 31).toNat ∧ s32 0xFFFFFFFE ^ (s32 31).toNat ≤ 2 ^ 31 - 1) ∧
    2 ^ 31 - 1 < s32 2 ^ (s32 31).toNat ∧ s32 0xFFFFFFFE ^ (s32 33).toNat < -2 ^ 31 := by
  unfold Regs32; decide +kernel

/-- 1 and 2^31 - 1; 0; 1 and the most negative number. -/
theorem witness_Log2AndCtz : Regs32 base [1, 2] ∧ ((2 ^ 0 : Int) ≤ s32 1 ∧ s32 1 < (2 ^ (0 + 1) : Int)) ∧
    ((2 ^ 30 : Int) ≤ s32 0x7FFFFFFF ∧ s32 0x7FFFFFFF < (2 ^ (30 + 1) : Int)) ∧ s32 0 ≤ 0 ∧
    ((0x80000000 : Word).getLsbD 31 = true ∧ ∀ j < 31, (0x80000000 : Word).getLsbD j = false) ∧ base.getX 3 = 0 := by
  unfold Regs32; decide +kernel

/-- No byte; four bytes at the last four, and past them; bounds equal, in order, and out of order. -/
theorem witness_CrcRndAndSeed :
    let s := start 0 [0x01] [(1, 65532), (2, 4), (3, 65533)] []
    Regs32 s [1, 2, 3] ∧ u32 (s.getX 0) = 0 ∧ InMemory (s32 (s.getX 1)) (u32 (s.getX 2)) ∧
    (0 < u32 (s.getX 2) ∧ ¬ InMemory (s32 (s.getX 3)) (u32 (s.getX 2))) ∧ s32 (s.getX 2) ≤ s32 (s.getX 2) ∧
    s32 (s.getX 2) ≤ s32 (s.getX 1) ∧ s32 (s.getX 2) < s32 (s.getX 3) := by
  unfold Regs32 InMemory; decide +kernel

end Sys2Proof.Tests

end
end

/-! System control (spec/40_system_control.md): the register file RESET clears (R176) and the return from the stack of
RET (R172). -/

section

namespace Sys2Proof.Machine

/-! ### Checked loads and Pop: where they go on, and where they fault -/

theorem withLoad_fault {s : State} {a : Int} (h : inBounds a 4 = false) (k : Word → Result) :
    withLoad s a k = .fault (.memoryFault a) := by
  simp [withLoad, Memory.load32, h, raise]

theorem inBounds_natCast {a n : Nat} : inBounds a n = true ↔ a + n ≤ Config.memSize := by
  rw [inBounds_iff]; omega

/-- Where the popped word is inside memory, Pop hands it on with SP four higher (20_memory.md R93). -/
theorem withPop_of {s : State} (h : u32 s.sp + 4 ≤ Config.memSize) (k : Word → State → Result) :
    withPop s k = k (s.mem.word (u32 s.sp)) (s.setX spReg (s.sp + 4)) :=
  withLoad_of (inBounds_natCast.mpr h) _

/-- Where it is not, Pop faults with SP as the address (20_memory.md R84, R93). -/
theorem withPop_fault {s : State} (h : Config.memSize < u32 s.sp + 4) (k : Word → State → Result) :
    withPop s k = .fault (.memoryFault (u32 s.sp)) :=
  withLoad_fault (Bool.eq_false_iff.mpr fun hb => by have := inBounds_natCast.mp hb; omega) _

/-! ### Registers and the frame of a register write -/

/-- SP is not R0: what is written to it is read back (10_state.md R33). -/
@[simp] theorem State.sp_setX_spReg (s : State) (w : Word) : (s.setX spReg w).sp = w := by
  rw [State.sp, State.getX_setX_self s (by decide), if_neg (by decide)]

@[simp] theorem State.sp_setPc (s : State) (t : Int) : (s.setPc t).sp = s.sp := rfl

theorem sameRegs_setX (s : State) (r : Byte) (w : Word) : SameRegs [r] s (s.setX r w) :=
  ⟨fun _ hq => State.getX_setX_ne s (mt List.mem_singleton.mpr hq) w, rfl⟩

theorem sameRun_setX (s : State) (r : Byte) (w : Word) : SameRun s (s.setX r w) :=
  ⟨rfl, rfl, rfl, rfl, rfl, rfl, rfl, rfl⟩

/-- Every operand byte reads 0 once the register file is cleared, SP's too (40_system_control.md R176). -/
@[simp] theorem State.clearRegs_getX (s : State) (r : Byte) : s.clearRegs.getX r = 0 := by
  rw [State.getX, State.clearRegs_x, readX]
  split
  · split
    · rfl
    · exact Vector.getElem_replicate _
  · rfl

/-! ### What RESET and RET do -/

theorem exec_reset (s : State) : exec .reset s = .next (s.clearRegs.confAny.advance 1) := rfl

theorem exec_ret_of_empty {s : State} (h : u32 s.sp = Config.stackTop) :
    exec .ret s = .next (s.halt.advance 1) := if_pos h

/-- RET off the empty stack is a Pop into the program counter. -/
theorem exec_ret_of_nonempty {s : State} (h : u32 s.sp ≠ Config.stackTop) :
    exec .ret s = withPop s fun v t => .next (t.setPc (u32 v)) := if_neg h

/-! ### The statements -/

/-- Settles O29: the next state is the cleared one, and each of its fields is read off. -/
theorem resetClearsTheRegisterFile : Obligations.ResetClearsTheRegisterFile := by
  intro s
  have hX (r : Byte) : (s.clearRegs.confAny.advance 1).getX r = 0 := by simp
  have hV (k : Nat) (hk : k < 16) : (s.clearRegs.confAny.advance 1).v[k] = 0 := by simp
  have hMem : SameMemory s (s.clearRegs.confAny.advance 1) := fun b => by simp
  have hRun : SameRun s (s.clearRegs.confAny.advance 1) := by simp [SameRun, SameEnvironment]
  exact ⟨_, exec_reset s, hX, hV, by simp, by simp, hMem, hRun⟩

/-- Settles O30: the three clauses are the empty stack, a Pop inside memory, and a Pop that faults. -/
theorem retHaltsOrPops : Obligations.RetHaltsOrPops := by
  intro s
  refine ⟨exec_ret_of_empty, fun hIn => ?_, fun hAbove hNonempty => ?_⟩
  · have hNonempty : u32 s.sp ≠ Config.stackTop := by rw [Config.stackTop]; omega
    refine ⟨(s.setX spReg (s.sp + 4)).setPc (u32 (s.mem.word (u32 s.sp))), ?_, rfl, by simp,
      sameRegs_setX s spReg (s.sp + 4), rfl, fun _ => rfl, ⟨rfl, rfl⟩, sameRun_setX s spReg (s.sp + 4)⟩
    rw [exec_ret_of_nonempty hNonempty, withPop_of hIn]
  · have hOut : Config.memSize < u32 s.sp + 4 := by rw [Config.memSize]; omega
    rw [exec_ret_of_nonempty hNonempty, withPop_fault hOut]

end Sys2Proof.Machine

end

/-! Single-register, immediate, move and swap instructions (spec/41_single_reg_and_imm.md, 44_imm16_and_frames.md R330 to
R332, 43_float_memory_control.md R302 and R303). -/

section

namespace Sys2Proof.Machine

/-! ### `wrap32` of a register's reading (00_scope.md R10) -/

theorem wrap32_u32 (v : Word) : wrap32 (u32 v) = v :=
  (BitVec.ofInt_natCast 32 _).trans (by simp)

theorem wrap32_s32 (v : Word) : wrap32 (s32 v) = v := BitVec.ofInt_toInt

theorem wrap32_add (a b : Int) : wrap32 (a + b) = wrap32 a + wrap32 b := BitVec.ofInt_add a b

theorem wrap32_sub (a b : Int) : wrap32 (a - b) = wrap32 a - wrap32 b := by
  rw [Int.sub_eq_add_neg, wrap32_add, BitVec.sub_eq_add_neg, wrap32, wrap32, BitVec.ofInt_neg]

theorem wrap32_zero_sub_s32 (v : Word) : wrap32 (0 - s32 v) = -v := by
  rw [wrap32_sub, wrap32_s32, wrap32, BitVec.ofInt_ofNat, BitVec.zero_sub]

theorem wrap32_toInt_byte (i : Byte) : wrap32 i.toInt = sext8 i := rfl

theorem wrap32_toNat_half (i : Half) : wrap32 i.toNat = zext16 i :=
  (BitVec.ofInt_natCast 32 _).trans (BitVec.ofNat_toNat 32 i)

theorem ofNat_toNat_byte (i : Byte) : BitVec.ofNat 32 i.toNat = zext8 i := BitVec.ofNat_toNat 32 i

/-- A left shift is the product with a power of two (42_integer_arithmetic.md R259). -/
theorem wrap32_u32_mul_two_pow (v : Word) (n : Nat) : wrap32 (u32 v * 2 ^ n) = shiftLeft v n := by
  have hcast : (u32 v : Int) * 2 ^ n = ((u32 v <<< n : Nat) : Int) := by
    rw [Nat.shiftLeft_eq]; push_cast; rfl
  apply BitVec.eq_of_toNat_eq
  rw [hcast, wrap32, BitVec.ofInt_natCast, BitVec.toNat_ofNat, shiftLeft, BitVec.toNat_shiftLeft]

/-- An arithmetic right shift is the floor of the quotient by a power of two (42_integer_arithmetic.md R260). -/
theorem wrap32_s32_div_two_pow (v : Word) (n : Nat) : wrap32 (s32 v / 2 ^ n) = shiftRightArith v n := by
  rw [shiftRightArith, BitVec.sshiftRight_eq, Int.shiftRight_eq_div_pow]
  push_cast
  rfl

/-! ### Valid operands -/

theorem Regs32.toNat_lt {s : State} {rs : List Byte} (h : Regs32 s rs) {r : Byte} (hr : r ∈ rs) : r.toNat < 48 :=
  (h r hr).2

/-- A register number in range has a confidence cell (10_state.md R60). -/
theorem NamesCell.toNat_lt {s : State} {r : Byte} (h : NamesCell s r) : r.toNat < 64 := by
  have hcount : s.params.nreg.count ≤ 64 := by cases s.params.nreg <;> decide
  exact Nat.lt_of_lt_of_le h hcount

/-! ### The frame of a write -/

theorem SameRegs.refl (rs : List Byte) (s : State) : SameRegs rs s s := ⟨fun _ _ => rfl, rfl⟩

/-- A write to a listed register keeps the unlisted ones the same. -/
theorem SameRegs.setX {rs : List Byte} {s t : State} (h : SameRegs rs s t) {r : Byte} (hr : r ∈ rs) (w : Word) :
    SameRegs rs s (t.setX r w) :=
  ⟨fun q hq => (State.getX_setX_ne t (ne_of_mem_of_not_mem hr hq).symm w).trans (h.1 q hq), h.2⟩

theorem writesReg_setX (s : State) {r : Byte} (h : r.toNat < 48) (w : Word) : WritesReg s (s.setX r w) r w :=
  ⟨State.getX_setX_self s h w, sameRegs_setX s r w, ⟨rfl, rfl⟩, fun _ => rfl, sameRun_setX s r w⟩

theorem sameCells_setC (s : State) (r : Byte) (k : Conf) : SameCells [r] s (s.setC r k) :=
  fun _ hq => State.getC_setC_ne s (mt List.mem_singleton.mpr hq) k

/-! ### An instruction that ends in a shared form completes -/

theorem completesZS_of_finishZS {i : Instr} {s : State} {rd : Byte} {r : Word} {len : Nat} (h : rd.toNat < 48)
    (hi : exec i s = finishZS s rd r len) : CompletesZS i s rd r len :=
  ⟨_, hi, rfl, writesReg_setX s h r, rfl, rfl⟩

theorem completesAny_of_finishAny {i : Instr} {s : State} {rd : Byte} {r : Word} {len : Nat} (h : rd.toNat < 48)
    (hi : exec i s = finishAny s rd r len) : CompletesAny i s rd r len :=
  ⟨_, hi, rfl, writesReg_setX s h r⟩

theorem completesX_of_finishX {i : Instr} {s : State} {rd : Byte} {r : Word} {len : Nat} (h : rd.toNat < 48)
    (hi : exec i s = finishX s rd r len) : CompletesX i s rd r len :=
  ⟨_, hi, rfl, writesReg_setX s h r, rfl⟩

theorem completesZS_of_updateZS {i : Instr} {s : State} {rd : Byte} {f : Word → Word} {r : Word} (h : Regs32 s [rd])
    (hi : exec i s = updateZS f rd s) (hr : r = f (s.getX rd)) : CompletesZS i s rd r 2 :=
  completesZS_of_finishZS (h.toNat_lt (.head _)) (by rw [hi, updateZS, withRegs_of h, hr])

theorem completesAny_of_updateAny {i : Instr} {s : State} {rd : Byte} {f : Word → Word} {r : Word} {len : Nat}
    (h : Regs32 s [rd]) (hi : exec i s = updateAny f rd len s) (hr : r = f (s.getX rd)) : CompletesAny i s rd r len :=
  completesAny_of_finishAny (h.toNat_lt (.head _)) (by rw [hi, updateAny, withRegs_of h, hr])

/-! ### Checked stores and Push: where they go on, and where they fault -/

theorem withStore_fault {s : State} {a : Int} (h : inBounds a 4 = false) (v : Word) (k : State → Result) :
    withStore s a v k = .fault (.memoryFault a) := by
  simp [withStore, Memory.store32, h, raise]

/-- The state after a word is stored at `a` (20_memory.md R85). -/
def State.stored (s : State) (a : Nat) (v : Word) : State := s.setMem (s.mem.setBytes a (wordBytes v))

/-- The state after `Push(v)` (20_memory.md R92). -/
def State.pushed (s : State) (v : Word) : State := (s.stored (u32 s.pushAddr) v).setX spReg s.pushAddr

/-- Where the four bytes below SP are inside memory, Push goes on in the pushed state. -/
theorem withPush_of {s : State} (h : u32 s.pushAddr + 4 ≤ Config.memSize) (v : Word) (k : State → Result) :
    withPush s v k = k (s.pushed v) :=
  withStore_of (inBounds_natCast.mpr h) v _

/-- Where they are not, Push faults with the address it would store to. -/
theorem withPush_fault {s : State} (h : Config.memSize < u32 s.pushAddr + 4) (v : Word) (k : State → Result) :
    withPush s v k = .fault (.memoryFault (u32 s.pushAddr)) :=
  withStore_fault (Bool.eq_false_iff.mpr fun hb => by have := inBounds_natCast.mp hb; omega) v _

/-- What a byte reads once a word is stored at `a`. -/
theorem State.stored_get {s : State} (hwf : s.mem.wf = true) {a : Nat} (ha : a + 4 ≤ Config.memSize) (v : Word)
    (b : Nat) :
    (s.stored a v).mem.get b = if a ≤ b then ((wordBytes v)[b - a]?).getD (s.mem.get b) else s.mem.get b :=
  Memory.get_setBytes (wordBytes v) hwf ha b

theorem stored_holds_word {s : State} (hwf : s.mem.wf = true) {a : Nat} (ha : a + 4 ≤ Config.memSize) (v : Word) :
    Stored (s.stored a v) a v := by
  simp [Stored, State.stored_get hwf ha, wordBytes]

theorem sameMemoryOutside_stored {s : State} (hwf : s.mem.wf = true) {a : Nat} (ha : a + 4 ≤ Config.memSize)
    (v : Word) : SameMemoryOutside a 4 s (s.stored a v) := by
  intro b hb
  rw [State.stored_get hwf ha]
  split
  · have hpast : (wordBytes v).length ≤ b - a := by simp only [wordBytes, List.length_cons, List.length_nil]; omega
    rw [List.getElem?_eq_none hpast, Option.getD_none]
  · rfl

/-- An instruction that pushes and then jumps. -/
theorem completesPush_of_pushed {i : Instr} {s : State} {v : Word} {p : Int} (hwf : s.mem.wf = true)
    (hin : u32 s.pushAddr + 4 ≤ Config.memSize) (hi : exec i s = .next ((s.pushed v).setPc p)) :
    CompletesPush i s v p :=
  ⟨_, hi, rfl, State.sp_setX_spReg _ _, stored_holds_word hwf hin v, sameMemoryOutside_stored hwf hin v,
    sameRegs_setX s spReg s.pushAddr, rfl, ⟨rfl, rfl⟩, sameRun_setX s spReg s.pushAddr⟩

/-! ### What PUSH, POP, CONF_LD, CONF_ST, SWP and the shifts do -/

theorem exec_push {s : State} {rd : Byte} (h : Regs32 s [rd]) :
    exec (.push rd) s = withPush s (s.getX rd) fun t => finish t 2 := withRegs_of h _

theorem exec_pop {s : State} {rd : Byte} (h : Regs32 s [rd]) (hrd : rd ≠ 11) :
    exec (.pop rd) s = withPop s fun v t => finishX t rd v 2 := (withRegs_of h _).trans (if_neg hrd)

theorem exec_pop_sp {s : State} (h : Regs32 s [11]) : exec (.pop 11) s = .refused .popIntoSP := withRegs_of h _

theorem exec_confLd {s : State} {rd : Byte} (h : NamesCell s rd) :
    exec (.confLd rd) s = .next ((s.setCacc (s.getC rd)).advance 2) := withCell_of h _

theorem exec_confSt {s : State} {rd : Byte} (h : NamesCell s rd) :
    exec (.confSt rd) s = .next ((s.setC rd s.cacc).advance 2) := withCell_of h _

theorem exec_swp {s : State} {rd rs1 : Byte} (ign : Byte) (h : Regs32 s [rd, rs1]) :
    exec (.swp rd rs1 ign) s = .next (((s.setX rd (s.getX rs1)).setX rs1 (s.getX rd)).advance 4) := withRegs_of h _

theorem withShiftCount_refused {i : Byte} (h : 63 < i.toNat) (k : Nat → Result) :
    withShiftCount i k = .refused .shiftCount := if_pos h

theorem exec_shli {s : State} {rd : Byte} (imm8 : Byte) (h : Regs32 s [rd]) :
    exec (.shli rd imm8) s = withShiftCount imm8 fun n => finishAny s rd (shiftLeft (s.getX rd) n) 3 := withRegs_of h _

theorem exec_shri {s : State} {rd : Byte} (imm8 : Byte) (h : Regs32 s [rd]) :
    exec (.shri rd imm8) s = withShiftCount imm8 fun n => finishAny s rd (shiftRightArith (s.getX rd) n) 3 :=
  withRegs_of h _

/-- After the two writes of SWP the second register reads what the first held, R0 aside: the same register written twice
keeps its value, because both writes carry it (43_float_memory_control.md R303). -/
theorem State.getX_swap_left (s : State) {rd rs1 : Byte} (hrd : rd.toNat < 48) :
    ((s.setX rd (s.getX rs1)).setX rs1 (s.getX rd)).getX rd = if rd = 0 then 0 else s.getX rs1 := by
  by_cases hsame : rd = rs1
  · subst hsame
    exact getX_setX_self _ hrd _
  · rw [getX_setX_ne _ hsame, getX_setX_self s hrd]

/-! ### The statements -/

/-- Settles O31: each updates rd by one function of its value, which is the rule's wrapped result. -/
theorem incDecNotNeg : Obligations.IncDecNotNeg := by
  intro s rd h
  rw [wrap32_add, wrap32_sub, wrap32_u32, wrap32_zero_sub_s32]
  exact ⟨completesZS_of_updateZS (f := (· + 1)) h rfl rfl,
    completesZS_of_updateZS (f := (· - 1)) h rfl rfl,
    completesZS_of_updateZS (f := (· ^^^ 0xFFFFFFFF)) h rfl rfl,
    completesZS_of_updateZS (f := (-·)) h rfl rfl⟩

/-- PUSH stores below SP, or faults there (41_single_reg_and_imm.md R214). -/
theorem push_stores_or_faults {s : State} {rd : Byte} (h : Regs32 s [rd]) :
    (s.mem.wf = true → InMemory (u32 s.pushAddr) 4 → CompletesPush (.push rd) s (s.getX rd) (s.pc + 2)) ∧
      (¬ InMemory (u32 s.pushAddr) 4 → exec (.push rd) s = .fault (.memoryFault (u32 s.pushAddr))) := by
  constructor
  · intro hwf hin
    have hin : u32 s.pushAddr + 4 ≤ Config.memSize := by exact_mod_cast hin.2
    exact completesPush_of_pushed hwf hin ((exec_push h).trans (withPush_of hin _ _))
  · intro hout
    have hout : Config.memSize < u32 s.pushAddr + 4 := by
      rw [InMemory] at hout
      rw [Config.memSize]
      omega
    rw [exec_push h, withPush_fault hout]

/-- POP into a register other than SP, the word inside memory (41_single_reg_and_imm.md R215). -/
theorem pop_loads {s : State} {rd : Byte} (h : Regs32 s [rd]) (hrd : rd ≠ 11) (hin : u32 s.sp + 4 ≤ 65536) :
    ∃ t, exec (.pop rd) s = .next t ∧ t.pc = s.pc + 2 ∧
      t.getX rd = (if rd = 0 then 0 else s.mem.word (u32 s.sp)) ∧ t.sp = s.sp + 4 ∧ SameRegs [rd, spReg] s t ∧
      t.flags = s.flags ∧ SameMemory s t ∧ SameConfidence s t ∧ SameRun s t := by
  have hread := State.getX_setX_self (s.setX spReg (s.sp + 4)) (h.toNat_lt (.head _)) (s.mem.word (u32 s.sp))
  have hsp : ((s.setX spReg (s.sp + 4)).setX rd (s.mem.word (u32 s.sp))).sp = s.sp + 4 :=
    (State.getX_setX_ne _ hrd.symm _).trans (State.sp_setX_spReg s _)
  have hregs : SameRegs [rd, spReg] s ((s.setX spReg (s.sp + 4)).setX rd (s.mem.word (u32 s.sp))) :=
    ((SameRegs.refl _ s).setX (by simp) _).setX (by simp) _
  exact ⟨_, (exec_pop h hrd).trans (withPop_of hin _), rfl, hread, hsp, hregs, rfl, fun _ => rfl, ⟨rfl, rfl⟩,
    by simp [SameRun, SameEnvironment]⟩

/-- Settles O32: PUSH and POP by whether the word lies inside memory; POP into SP is refused first. -/
theorem pushAndPop : Obligations.PushAndPop := by
  refine ⟨fun s rd h => ?_, fun s rd h => ⟨pop_loads h, fun hrd hout => ?_, ?_⟩⟩
  · obtain ⟨hstores, hfaults⟩ := push_stores_or_faults h
    exact ⟨fun hwf hin => ⟨rfl, hstores hwf hin⟩, hfaults⟩
  · rw [exec_pop h hrd, withPop_fault hout]
  · rintro rfl
    exact exec_pop_sp h

/-- Settles O33: one cell, or the accumulator, is written and read back. -/
theorem confLdAndConfSt : Obligations.ConfLdAndConfSt := by
  intro s rd h
  exact ⟨exec_confLd h, _, exec_confSt h, State.getC_setC_self s h.toNat_lt s.cacc, sameCells_setC s rd s.cacc, rfl,
    rfl, rfl, SameRegs.refl [] s, fun _ => rfl, by simp [SameRun, SameEnvironment]⟩

/-- Settles O34: three writes of one register, and the two writes of SWP with the values read before them. -/
theorem movesImmediatesAndSwap : Obligations.MovesImmediatesAndSwap := by
  refine ⟨fun s => ⟨fun rd imm8 h => ?_, fun rd imm16 h => ?_, fun rd rs1 ign h => ?_⟩, fun s rd rs1 ign h => ?_⟩
  · exact completesX_of_finishX (h.toNat_lt (.head _)) (withRegs_of h _)
  · rw [wrap32_toNat_half]
    exact completesX_of_finishX (h.toNat_lt (.head _)) (withRegs_of h _)
  · exact completesX_of_finishX (h.toNat_lt (.head _)) (withRegs_of h _)
  · have hregs : SameRegs [rd, rs1] s ((s.setX rd (s.getX rs1)).setX rs1 (s.getX rd)) :=
      ((SameRegs.refl _ s).setX (by simp) _).setX (by simp) _
    exact ⟨_, exec_swp ign h, rfl, s.getX_swap_left (h.toNat_lt (by simp)),
      State.getX_setX_self _ (h.toNat_lt (by simp)) _, hregs, rfl, fun _ => rfl, ⟨rfl, rfl⟩,
      by simp [SameRun, SameEnvironment]⟩

/-- The seven immediate instructions that complete for every immediate. -/
theorem immediateArithmetic_completes {s : State} {rd : Byte} (imm8 : Byte) (imm16 : Half) (h : Regs32 s [rd]) :
    CompletesAny (.addi rd imm8) s rd (wrap32 (s32 (s.getX rd) + imm8.toInt)) 3 ∧
    CompletesAny (.subi rd imm8) s rd (wrap32 (s32 (s.getX rd) - imm8.toInt)) 3 ∧
    CompletesAny (.andi rd imm8) s rd (s.getX rd &&& BitVec.ofNat 32 imm8.toNat) 3 ∧
    CompletesAny (.ori rd imm8) s rd (s.getX rd ||| BitVec.ofNat 32 imm8.toNat) 3 ∧
    CompletesAny (.xori rd imm8) s rd (s.getX rd ^^^ BitVec.ofNat 32 imm8.toNat) 3 ∧
    CompletesAny (.addi16 rd imm16) s rd (wrap32 ((u32 (s.getX rd) : Int) + imm16.toNat)) 4 ∧
    CompletesAny (.subi16 rd imm16) s rd (wrap32 ((u32 (s.getX rd) : Int) - imm16.toNat)) 4 := by
  simp only [wrap32_add, wrap32_sub, wrap32_s32, wrap32_u32, wrap32_toInt_byte, wrap32_toNat_half, ofNat_toNat_byte]
  exact ⟨completesAny_of_updateAny (f := (· + sext8 imm8)) h rfl rfl,
    completesAny_of_updateAny (f := (· - sext8 imm8)) h rfl rfl,
    completesAny_of_updateAny (f := (· &&& zext8 imm8)) h rfl rfl,
    completesAny_of_updateAny (f := (· ||| zext8 imm8)) h rfl rfl,
    completesAny_of_updateAny (f := (· ^^^ zext8 imm8)) h rfl rfl,
    completesAny_of_updateAny (f := (· + zext16 imm16)) h rfl rfl,
    completesAny_of_updateAny (f := (· - zext16 imm16)) h rfl rfl⟩

/-- Settles O35: the immediates as the model extends them, and the shifts by whether the count is below 64. -/
theorem immediateArithmeticAndShifts : Obligations.ImmediateArithmeticAndShifts := by
  refine ⟨fun s rd imm8 imm16 h => immediateArithmetic_completes imm8 imm16 h,
    fun s rd imm8 h => ⟨fun hle => ?_, fun hgt => ?_⟩⟩
  · rw [wrap32_u32_mul_two_pow, wrap32_s32_div_two_pow]
    exact ⟨completesAny_of_finishAny (h.toNat_lt (.head _)) ((exec_shli imm8 h).trans (withShiftCount_of hle _)),
      completesAny_of_finishAny (h.toNat_lt (.head _)) ((exec_shri imm8 h).trans (withShiftCount_of hle _))⟩
  · exact ⟨(exec_shli imm8 h).trans (withShiftCount_refused hgt _),
      (exec_shri imm8 h).trans (withShiftCount_refused hgt _)⟩

end Sys2Proof.Machine

end

/-! Integer arithmetic, comparisons and division (spec/42_integer_arithmetic.md R250 to R266). -/

section

namespace Sys2Proof.Machine

/-! ### The three-register shapes complete -/

theorem completesZS_of_binaryZS {i : Instr} {s : State} {rd rs1 rs2 : Byte} {f : Word → Word → Word} {r : Word}
    (h : Regs32 s [rd, rs1, rs2]) (hi : exec i s = binaryZS f rd rs1 rs2 s) (hr : r = f (s.getX rs1) (s.getX rs2)) :
    CompletesZS i s rd r 4 :=
  completesZS_of_finishZS (h.toNat_lt (.head _)) (by rw [hi, binaryZS, withRegs_of h, hr])

theorem completesAny_of_binaryAny {i : Instr} {s : State} {rd rs1 rs2 : Byte} {f : Word → Word → Word} {r : Word}
    (h : Regs32 s [rd, rs1, rs2]) (hi : exec i s = binaryAny f rd rs1 rs2 s) (hr : r = f (s.getX rs1) (s.getX rs2)) :
    CompletesAny i s rd r 4 :=
  completesAny_of_finishAny (h.toNat_lt (.head _)) (by rw [hi, binaryAny, withRegs_of h, hr])

/-! ### The operations on words -/

theorem wrap32_mul (a b : Int) : wrap32 (a * b) = wrap32 a * wrap32 b := BitVec.ofInt_mul a b

/-- The low 6 bits of a word are its value modulo 64 (42_integer_arithmetic.md R259). -/
theorem shiftCount_eq_mod (v : Word) : shiftCount v = u32 v % 64 := by
  rw [shiftCount, BitVec.extractLsb'_toNat, Nat.shiftRight_zero]

theorem truth_decide (p : Prop) [Decidable p] : truth (decide p) = if p then 1 else 0 := by
  by_cases hp : p <;> simp [truth, hp]

theorem truth_beq (a b : Word) : truth (a == b) = if a = b then 1 else 0 := truth_decide (a = b)

theorem truth_bne (a b : Word) : truth (a != b) = if a ≠ b then 1 else 0 := by
  rw [← truth_decide (a ≠ b), decide_not]
  rfl

/-! ### Truncating and flooring division (42_integer_arithmetic.md R254, R255) -/

theorem quotient_mul_add_remainder (m : DivMode) (a b : Int) : quotient m a b * b + remainder m a b = a :=
  add_sub_cancel _ _

theorem remainder_trunc (a b : Int) : remainder .trunc a b = a.tmod b := by
  rw [Int.tmod_def, Int.mul_comm]
  rfl

theorem remainder_floor (a b : Int) : remainder .floor a b = a.fmod b := by
  rw [Int.fmod_def, Int.mul_comm]
  rfl

/-- By a negative divisor the flooring remainder lies above it and is not positive. -/
theorem fmod_bounds_of_neg (a : Int) {b : Int} (hb : b < 0) : b < a.fmod b ∧ a.fmod b ≤ 0 :=
  ((Int.fdiv_fmod_unique' hb).mp ⟨rfl, rfl⟩).2

/-- Whatever the mode, the remainder is smaller than the divisor. -/
theorem abs_remainder_lt (m : DivMode) (a : Int) {b : Int} (hb : b ≠ 0) : |remainder m a b| < |b| := by
  cases m with
  | trunc =>
    rw [remainder_trunc, Int.abs_eq_natAbs, Int.abs_eq_natAbs, Int.natAbs_tmod]
    exact_mod_cast Nat.mod_lt _ (Int.natAbs_pos.mpr hb)
  | floor =>
    rw [remainder_floor]
    rcases lt_or_gt_of_ne hb with hneg | hpos
    · obtain ⟨hlt, hle⟩ := fmod_bounds_of_neg a hneg
      rw [abs_of_nonpos hle, abs_of_neg hneg]
      exact neg_lt_neg hlt
    · rw [abs_of_nonneg (Int.fmod_nonneg_of_pos a hpos), abs_of_pos hpos]
      exact Int.fmod_lt_of_pos a hpos

/-- The truncating remainder is 0 or has the sign of the dividend. -/
theorem remainder_trunc_mul_dividend_nonneg (a b : Int) : 0 ≤ remainder .trunc a b * a := by
  rw [remainder_trunc]
  rcases le_total 0 a with ha | ha
  · exact mul_nonneg (Int.tmod_nonneg b ha) ha
  · have hneg : 0 ≤ -a.tmod b := Int.neg_tmod a b ▸ Int.tmod_nonneg b (neg_nonneg.mpr ha)
    exact mul_nonneg_of_nonpos_of_nonpos (neg_nonneg.mp hneg) ha

/-- The flooring remainder is 0 or has the sign of the divisor. -/
theorem remainder_floor_mul_divisor_nonneg (a : Int) {b : Int} (hb : b ≠ 0) : 0 ≤ remainder .floor a b * b := by
  rw [remainder_floor]
  rcases lt_or_gt_of_ne hb with hneg | hpos
  · exact mul_nonneg_of_nonpos_of_nonpos (fmod_bounds_of_neg a hneg).2 hneg.le
  · exact mul_nonneg (Int.fmod_nonneg_of_pos a hpos) hpos.le

/-! ### What DIV and MOD do -/

theorem withDivisor_of {s : State} {r : Byte} (h : s32 (s.getX r) ≠ 0) (k : Result) :
    withDivisor s r k = k := if_neg h

theorem withDivisor_fault {s : State} {r : Byte} (h : s32 (s.getX r) = 0) (k : Result) :
    withDivisor s r k = .fault (.divideByZero s.pc) := if_pos h

theorem exec_div {s : State} {rd rs1 rs2 : Byte} (h : Regs32 s [rd, rs1, rs2]) :
    exec (.div rd rs1 rs2) s = withDivisor s rs2
      (finishAny s rd (wrap32 (quotient s.params.divMode (s32 (s.getX rs1)) (s32 (s.getX rs2)))) 4) := withRegs_of h _

theorem exec_mod {s : State} {rd rs1 rs2 : Byte} (h : Regs32 s [rd, rs1, rs2]) :
    exec (.mod rd rs1 rs2) s = withDivisor s rs2
      (finishAny s rd (wrap32 (remainder s.params.divMode (s32 (s.getX rs1)) (s32 (s.getX rs2)))) 4) := withRegs_of h _

/-! ### The statements -/

/-- Settles O36: each writes one function of its two sources' values, which is the rule's result. -/
theorem integerArithmetic : Obligations.IntegerArithmetic := by
  intro s rd rs1 rs2 h
  simp only [← shiftCount_eq_mod, wrap32_u32_mul_two_pow, wrap32_s32_div_two_pow]
  simp only [wrap32_add, wrap32_sub, wrap32_mul, wrap32_u32, wrap32_s32]
  exact ⟨completesZS_of_binaryZS (f := (· + ·)) h rfl rfl,
    completesZS_of_binaryZS (f := (· - ·)) h rfl rfl,
    completesZS_of_binaryZS (f := (· * ·)) h rfl rfl,
    completesZS_of_binaryZS (f := (· &&& ·)) h rfl rfl,
    completesZS_of_binaryZS (f := (· ||| ·)) h rfl rfl,
    completesZS_of_binaryZS (f := (· ^^^ ·)) h rfl rfl,
    completesZS_of_binaryZS (f := fun a b => shiftLeft a (shiftCount b)) h rfl rfl,
    completesZS_of_binaryZS (f := fun a b => shiftRightArith a (shiftCount b)) h rfl rfl,
    completesZS_of_binaryZS (f := minSigned) h rfl rfl,
    completesZS_of_binaryZS (f := maxSigned) h rfl rfl⟩

/-- Settles O37: each writes the truth value of its test on the two sources' values. -/
theorem integerComparisons : Obligations.IntegerComparisons := by
  intro s rd rs1 rs2 h
  exact ⟨completesAny_of_binaryAny (f := fun a b => truth (a == b)) h rfl (truth_beq _ _).symm,
    completesAny_of_binaryAny (f := fun a b => truth (decide (s32 a < s32 b))) h rfl (truth_decide _).symm,
    completesAny_of_binaryAny (f := fun a b => truth (decide (s32 b < s32 a))) h rfl (truth_decide _).symm,
    completesAny_of_binaryAny (f := fun a b => truth (a != b)) h rfl (truth_bne _ _).symm⟩

/-- Settles O38: the model's quotient and remainder are the pair asked for; both instructions test the divisor first. -/
theorem divisionIdentity : Obligations.DivisionIdentity := by
  intro s rd rs1 rs2 h a b
  have hrd : rd.toNat < 48 := h.toNat_lt (.head _)
  refine ⟨fun hb => ⟨quotient s.params.divMode a b, remainder s.params.divMode a b,
    (quotient_mul_add_remainder _ a b).symm, abs_remainder_lt _ a hb, fun htrunc => ?_, fun hfloor => ?_,
    completesAny_of_finishAny hrd ((exec_div h).trans (withDivisor_of hb _)),
    completesAny_of_finishAny hrd ((exec_mod h).trans (withDivisor_of hb _))⟩, fun hb => ⟨?_, ?_⟩⟩
  · rw [htrunc]
    exact remainder_trunc_mul_dividend_nonneg a b
  · rw [hfloor]
    exact remainder_floor_mul_divisor_nonneg a hb
  · rw [exec_div h, withDivisor_fault hb]
  · rw [exec_mod h, withDivisor_fault hb]

end Sys2Proof.Machine

end

/-! Loads and stores of one word (spec/43_float_memory_control.md R300 and R301, 44_imm16_and_frames.md R340 and R341), and
the register-conditional branches (43_float_memory_control.md R304 to R307). -/

section

namespace Sys2Proof.Machine

/-! ### The model's bounds check is the statements' `InMemory` (20_memory.md R84) -/

theorem inBounds_iff_inMemory {a : Int} {n : Nat} : inBounds a n = true ↔ InMemory a n := inBounds_iff

theorem inBounds_of_not_inMemory {a : Int} {n : Nat} (h : ¬ InMemory a n) : inBounds a n = false :=
  Bool.eq_false_iff.mpr (mt inBounds_iff_inMemory.mp h)

/-! ### An instruction that ends in a checked load or a checked store -/

theorem completesX_of_withLoad {i : Instr} {s : State} {rd : Byte} {a : Int} {len : Nat} (hrd : rd.toNat < 48)
    (hi : exec i s = withLoad s a fun v => finishX s rd v len) (ha : InMemory a 4) :
    CompletesX i s rd (s.mem.word a.toNat) len :=
  completesX_of_finishX hrd (hi.trans (withLoad_of (inBounds_iff_inMemory.mpr ha) _))

theorem exec_fault_of_withLoad {i : Instr} {s : State} {a : Int} {k : Word → Result}
    (hi : exec i s = withLoad s a k) (ha : ¬ InMemory a 4) : exec i s = .fault (.memoryFault a) :=
  hi.trans (withLoad_fault (inBounds_of_not_inMemory ha) k)

theorem completesStore_of_withStore {i : Instr} {s : State} {a : Int} {v : Word} {len : Nat} (hwf : s.mem.wf = true)
    (hi : exec i s = withStore s a v fun t => finish t len) (ha : InMemory a 4) : CompletesStore i s a v len := by
  have hnext : exec i s = .next ((s.stored a.toNat v).advance len) :=
    hi.trans (withStore_of (inBounds_iff_inMemory.mpr ha) v _)
  obtain ⟨hnonneg, hend⟩ := ha
  obtain ⟨n, rfl⟩ := Int.eq_ofNat_of_zero_le hnonneg
  have hin : n + 4 ≤ Config.memSize := by exact_mod_cast hend
  exact ⟨_, hnext, rfl, stored_holds_word hwf hin v, sameMemoryOutside_stored hwf hin v, SameRegs.refl [] s, rfl,
    ⟨rfl, rfl⟩, by simp [State.stored, SameRun, SameEnvironment]⟩

theorem exec_fault_of_withStore {i : Instr} {s : State} {a : Int} {v : Word} {k : State → Result}
    (hi : exec i s = withStore s a v k) (ha : ¬ InMemory a 4) : exec i s = .fault (.memoryFault a) :=
  hi.trans (withStore_fault (inBounds_of_not_inMemory ha) v k)

/-! ### What the loads, the stores and the branches do -/

/-- Valid operands stay valid when fewer of them are used. -/
theorem Regs32.mono {s : State} {rs qs : List Byte} (h : Regs32 s rs) (hsub : qs ⊆ rs) : Regs32 s qs :=
  fun r hr => h r (hsub hr)

theorem exec_load {s : State} {rd rs1 rs2 : Byte} (h : Regs32 s [rd, rs1, rs2]) :
    exec (.load rd rs1 rs2) s = withLoad s (s.indexedAddr rs1 rs2) fun v => finishX s rd v 4 := withRegs_of h _

theorem exec_loadoff {s : State} {rd rs1 : Byte} (imm16 : Half) (h : Regs32 s [rd, rs1]) :
    exec (.loadoff rd rs1 imm16) s = withLoad s (s.offsetAddr rs1 imm16.toInt) fun v => finishX s rd v 5 :=
  withRegs_of h _

theorem exec_store {s : State} {rd rs1 rs2 : Byte} (h : Regs32 s [rd, rs1, rs2]) :
    exec (.store rd rs1 rs2) s = withStore s (s.indexedAddr rs1 rs2) (s.getX rd) fun t => finish t 4 := withRegs_of h _

theorem exec_storeoff {s : State} {rd rs1 : Byte} (imm16 : Half) (h : Regs32 s [rd, rs1]) :
    exec (.storeoff rd rs1 imm16) s = withStore s (s.offsetAddr rs1 imm16.toInt) (s.getX rd) fun t => finish t 5 :=
  withRegs_of h _

/-- A branch of `len` bytes changes only `pc`: to its target where the test holds, past itself otherwise. -/
theorem finishBranch_eq (s : State) (len : Nat) (taken : Bool) (r : Byte) :
    finishBranch s len taken r =
      .next { s with pc := if taken then s.pc + len + s32 (s.getX r) else s.pc + len } := by
  cases taken with
  | true => rfl
  | false => rfl

/-- A conditional branch whose test on the value of `rd` says `p`. -/
theorem exec_branch {i : Instr} {s : State} {test : Word → Bool} {rd rs1 : Byte} {p : Prop} [Decidable p]
    (h : Regs32 s [rd, rs1]) (hi : exec i s = branchIf test rd rs1 s) (hp : test (s.getX rd) = true ↔ p) :
    exec i s = .next { s with pc := if p then s.pc + 4 + s32 (s.getX rs1) else s.pc + 4 } := by
  rw [hi, branchIf, withRegs_of h, finishBranch_eq]
  simp only [hp, Nat.cast_ofNat]

/-! ### The statements -/

/-- Settles O43: each is one checked load into rd, from the sum of the signed readings. -/
theorem loadsReadTheAddressedWord : Obligations.LoadsReadTheAddressedWord := by
  intro s rd rs1 rs2 imm16 h
  have hrd : rd.toNat < 48 := h.toNat_lt (.head _)
  have hload := exec_load h
  have hloadoff := exec_loadoff imm16 (h.mono (qs := [rd, rs1]) (by simp))
  exact ⟨completesX_of_withLoad hrd hload, exec_fault_of_withLoad hload,
    completesX_of_withLoad hrd hloadoff, exec_fault_of_withLoad hloadoff⟩

/-- Settles O44: each is one checked store of rd's value, at the sum of the signed readings. -/
theorem storesWriteTheAddressedWord : Obligations.StoresWriteTheAddressedWord := by
  intro s rd rs1 rs2 imm16 h hwf
  have hstore := exec_store h
  have hstoreoff := exec_storeoff imm16 (h.mono (qs := [rd, rs1]) (by simp))
  exact ⟨rfl, rfl, completesStore_of_withStore hwf hstore, exec_fault_of_withStore hstore,
    completesStore_of_withStore hwf hstoreoff, exec_fault_of_withStore hstoreoff⟩

/-- Settles O49: the four are one branch, each with its own test of rd's value. -/
theorem conditionalBranches : Obligations.ConditionalBranches := by
  intro s rd rs1 ign h
  exact ⟨exec_branch (test := (· == 0)) h rfl beq_iff_eq,
    exec_branch (test := (· != 0)) h rfl bne_iff_ne,
    exec_branch (test := fun v => decide (s32 v < 0)) h rfl decide_eq_true_iff,
    exec_branch (test := fun v => decide (0 < s32 v)) h rfl decide_eq_true_iff⟩

end Sys2Proof.Machine

end

/-! Jumps, links, calls and counted jumps (spec/44_imm16_and_frames.md R333 to R337, 45_long_jumps_ext_memory.md R370 to
R372). -/

section

namespace Sys2Proof.Machine

/-! ### Shared operations: the agreed imm16, and an instruction that ends in a Push and a jump -/

/-- From 0x8000 on the two readings of imm16 differ, and the instruction is refused (44_imm16_and_frames.md R329). -/
theorem withAgreedImm16_refused {i : Half} (h : 0x8000 ≤ i.toNat) (k : Nat → Result) :
    withAgreedImm16 i k = .refused .imm16Signedness := if_pos h

/-- An address range inside memory starts at a natural number. -/
theorem InMemory.exists_nat {a : Int} {n : Nat} (h : InMemory a n) : ∃ k : Nat, a = k ∧ k + n ≤ Config.memSize := by
  obtain ⟨hnonneg, hend⟩ := h
  obtain ⟨k, rfl⟩ := Int.eq_ofNat_of_zero_le hnonneg
  exact ⟨k, rfl, by exact_mod_cast hend⟩

theorem completesPush_of_withPush {i : Instr} {s : State} {v : Word} {p : Int} (hwf : s.mem.wf = true)
    (hi : exec i s = withPush s v fun t => .next (t.setPc p)) (hin : InMemory (u32 s.pushAddr) 4) :
    CompletesPush i s v p := by
  have hin : u32 s.pushAddr + 4 ≤ Config.memSize := by exact_mod_cast hin.2
  exact completesPush_of_pushed hwf hin (hi.trans (withPush_of hin v _))

theorem exec_fault_of_withPush {i : Instr} {s : State} {v : Word} {k : State → Result}
    (hi : exec i s = withPush s v k) (hout : ¬ InMemory (u32 s.pushAddr) 4) :
    exec i s = .fault (.memoryFault (u32 s.pushAddr)) :=
  exec_fault_of_withStore (k := fun t => k (t.setX spReg s.pushAddr)) hi hout

/-! ### What the jumps, the links and the calls do -/

theorem jumpRelative_eq (imm16 : Half) (s : State) :
    jumpRelative imm16 s = .next { s with pc := s.pc + 4 + imm16.toInt } := rfl

theorem jumpAndLink_eq {s : State} {rd : Byte} (imm16 : Half) (h : Regs32 s [rd]) :
    jumpAndLink rd imm16 s = .next ((s.setX rd (wrap32 (s.pc + 4))).jumpBy 4 imm16.toInt) := withRegs_of h _

theorem callIndirect_eq {s : State} {rd : Byte} (imm16 : Half) (h : Regs32 s [rd]) :
    callIndirect rd imm16 s =
      withPush s (wrap32 (s.pc + 4)) fun t => .next (t.setPc (s32 (s.getX rd) + imm16.toInt)) := withRegs_of h _

/-- An instruction that links the next instruction's address and jumps (44_imm16_and_frames.md R334). -/
theorem links_of_jumpAndLink {i : Instr} {s : State} {rd : Byte} {imm16 : Half} (h : Regs32 s [rd])
    (hi : exec i s = jumpAndLink rd imm16 s) :
    ∃ t, exec i s = .next t ∧ t.pc = s.pc + 4 + imm16.toInt ∧ WritesReg s t rd (wrap32 (s.pc + 4)) ∧
      t.flags = s.flags :=
  ⟨_, hi.trans (jumpAndLink_eq imm16 h), rfl, writesReg_setX s (h.toNat_lt (.head _)) _, rfl⟩

/-! ### What LOOP and SELECT do -/

/-- LOOP's new counter, the wrapped predecessor of the old one (44_imm16_and_frames.md R336). -/
theorem wrap32_u32_sub_one (v : Word) : wrap32 ((u32 v : Int) - 1) = v - 1 := by
  rw [wrap32_sub, wrap32_u32]
  rfl

/-- Whether LOOP goes back is decided by the new counter; the register and the flags change either way. -/
theorem exec_loop {s : State} {rd : Byte} {imm16 : Half} (h : Regs32 s [rd]) (himm : imm16.toNat < 0x8000) :
    exec (.loop rd imm16) s = .next (((s.setX rd (s.getX rd - 1)).flagsAny).setPc
      (if 0 < s32 (s.getX rd - 1) then s.pc + 4 - imm16.toNat else s.pc + 4)) := by
  refine (withRegs_of h _).trans ((withAgreedImm16_of himm _).trans ?_)
  split
  · rw [Int.sub_eq_add_neg]
    rfl
  · rfl

theorem exec_select {s : State} {rd : Byte} {imm16 : Half} (h : Regs32 s [rd]) (himm : imm16.toNat < 0x8000) :
    exec (.select rd imm16) s = .next { s with pc := s.pc + 4 + imm16.toNat * s32 (s.getX rd) } :=
  (withRegs_of h _).trans (withAgreedImm16_of himm _)

/-! ### The statements -/

/-- Settles O50: JMP and JMPL are one relative jump, JAL and JALL one jump and link. -/
theorem jumpsAndLinks : Obligations.JumpsAndLinks := by
  intro s imm16
  exact ⟨fun _ => ⟨jumpRelative_eq imm16 s, jumpRelative_eq imm16 s⟩,
    fun rd h => ⟨links_of_jumpAndLink h rfl, links_of_jumpAndLink h rfl⟩⟩

/-- Settles O51: CALL and CALLL are one Push followed by a jump, whose target is read before the Push. -/
theorem callsPushTheReturnAddress : Obligations.CallsPushTheReturnAddress := by
  intro s rd imm16 h hwf
  have hcall : exec (.call rd imm16) s = _ := callIndirect_eq imm16 h
  have hcalll : exec (.calll rd imm16) s = _ := callIndirect_eq imm16 h
  exact ⟨rfl, fun hin => ⟨completesPush_of_withPush hwf hcall hin, completesPush_of_withPush hwf hcalll hin⟩,
    fun hout => ⟨exec_fault_of_withPush hcall hout, exec_fault_of_withPush hcalll hout⟩⟩

/-- Settles O52: LOOP and SELECT by whether the two readings of imm16 agree. -/
theorem loopAndSelect : Obligations.LoopAndSelect := by
  intro s rd imm16 h
  rw [wrap32_u32_sub_one]
  exact ⟨fun himm => ⟨⟨_, exec_loop h himm, writesReg_setX s (h.toNat_lt (.head _)) _, rfl⟩, exec_select h himm⟩,
    fun himm => ⟨(withRegs_of h _).trans (withAgreedImm16_refused himm _),
      (withRegs_of h _).trans (withAgreedImm16_refused himm _)⟩⟩

end Sys2Proof.Machine

end

/-! Accesses through a pointer, the exchange of ATOMIC, and the block instructions (spec/44_imm16_and_frames.md R342,
R343, R346 and R347, 45_long_jumps_ext_memory.md R394). -/

section

namespace Sys2Proof.Machine

/-! ### What LOADI, STOREI and ATOMIC do -/

theorem exec_loadi {s : State} {rd rs1 : Byte} {imm16 : Half} (h : Regs32 s [rd, rs1]) (himm : imm16.toNat < 0x8000) :
    exec (.loadi rd rs1 imm16) s = withLoad s (s32 (s.getX rs1)) fun p =>
      withLoad s (s32 p + imm16.toNat) fun v => finishX s rd v 5 :=
  (withRegs_of h _).trans (withAgreedImm16_of himm _)

theorem exec_storei {s : State} {rd rs1 : Byte} {imm16 : Half} (h : Regs32 s [rd, rs1]) (himm : imm16.toNat < 0x8000) :
    exec (.storei rd rs1 imm16) s = withLoad s (s32 (s.getX rs1)) fun p =>
      withStore s (s32 p + imm16.toNat) (s.getX rd) fun t => finish t 5 :=
  (withRegs_of h _).trans (withAgreedImm16_of himm _)

theorem exec_atomic {s : State} {rd rs1 : Byte} {imm16 : Half} (h : Regs32 s [rd, rs1]) (himm : imm16.toNat < 0x8000) :
    exec (.atomic rd rs1 imm16) s = withLoad s (s.offsetAddr rs1 imm16.toNat) fun old =>
      withStore s (s.offsetAddr rs1 imm16.toNat) (s.getX rd) fun t => finishX t rd old 5 :=
  (withRegs_of h _).trans (withAgreedImm16_of himm _)

/-- Where the loaded word is inside memory, the instruction goes on with it. -/
theorem exec_eq_of_withLoad {i : Instr} {s : State} {a : Int} {k : Word → Result} (hi : exec i s = withLoad s a k)
    (ha : InMemory a 4) : exec i s = k (s.mem.word a.toNat) :=
  hi.trans (withLoad_of (inBounds_iff_inMemory.mpr ha) k)

/-- An instruction that loads a word and stores another in its place: the register gets the word before the store. -/
theorem exchange_completes {i : Instr} {s : State} {rd : Byte} {a : Int} {v : Word} {len : Nat} (hrd : rd.toNat < 48)
    (hwf : s.mem.wf = true)
    (hi : exec i s = withLoad s a fun old => withStore s a v fun t => finishX t rd old len) (ha : InMemory a 4) :
    ∃ t, exec i s = .next t ∧ t.pc = s.pc + len ∧ Stored t a v ∧ SameMemoryOutside a 4 s t ∧
      t.getX rd = (if rd = 0 then 0 else s.mem.word a.toNat) ∧ SameRegs [rd] s t ∧ t.flags = s.flags ∧
      SameConfidence s t ∧ SameRun s t := by
  have hnext := (exec_eq_of_withLoad hi ha).trans (withStore_of (inBounds_iff_inMemory.mpr ha) v _)
  obtain ⟨n, rfl, hn⟩ := ha.exists_nat
  exact ⟨_, hnext, rfl, stored_holds_word hwf hn v, sameMemoryOutside_stored hwf hn v,
    State.getX_setX_self (s.stored n v) hrd (s.mem.word n), sameRegs_setX (s.stored n v) rd (s.mem.word n), rfl,
    ⟨rfl, rfl⟩, sameRun_setX (s.stored n v) rd (s.mem.word n)⟩

/-! ### A forward copy (44_imm16_and_frames.md R346) -/

/-- A forward copy gives each byte of the destination what the source held before, unless the destination starts inside
the source, above its start: no other byte is read after it is written. -/
theorem Memory.get_copyUp_inside (n : Nat) {m : Memory} (hwf : m.wf = true) {d a : Nat} (hd : d + n ≤ Config.memSize)
    (hno : ¬ (a < d ∧ d < a + n)) {k : Nat} (hk : k < n) : (m.copyUp d a n).get (d + k) = m.get (a + k) := by
  induction n generalizing m d a k with
  | zero => omega
  | succ n ih =>
    have hwf' : (m.set d (m.get a)).wf = true := set_wf hwf (by omega) _
    rw [copyUp]
    cases k with
    | zero => rw [get_copyUp_outside n hwf' (by omega) _ (by omega), get_set hwf, if_pos (by omega), Nat.add_zero]
    | succ k =>
      have hunread : a + (k + 1) ≠ d := by omega
      rw [show d + (k + 1) = d + 1 + k by omega, ih hwf' (by omega) (by omega) (by omega),
        show a + 1 + k = a + (k + 1) by omega, get_set hwf, if_neg hunread]

/-! ### What COPY and FILL do with their ranges -/

theorem withRange_of {a : Int} {n : Nat} (h : InMemory a n) (k : Result) : withRange a n k = k :=
  if_pos (inBounds_iff_inMemory.mpr h)

theorem withRange_fault {a : Int} {n : Nat} (h : ¬ InMemory a n) (k : Result) :
    withRange a n k = .fault (.memoryFault a) :=
  if_neg (mt inBounds_iff_inMemory.mp h)

theorem exec_copy {s : State} {rd rs1 : Byte} (imm16 : Half) (h : Regs32 s [rd, rs1]) :
    exec (.copy rd rs1 imm16) s = copyBytes s (s.regAddr rd) (s.regAddr rs1) imm16.toNat := withRegs_of h _

theorem exec_fill {s : State} {rd rs1 : Byte} (imm16 : Half) (h : Regs32 s [rd, rs1]) :
    exec (.fill rd rs1 imm16) s = fillBytes s (s.regAddr rd) (s.getX rs1) imm16.toNat := withRegs_of h _

/-- A change of memory alone, and the end of the instruction, keep the rest of the state. -/
theorem setMem_advance_frame (s : State) (m : Memory) (len : Nat) :
    SameRegs [] s ((s.setMem m).advance len) ∧ ((s.setMem m).advance len).flags = s.flags ∧
      SameConfidence s ((s.setMem m).advance len) ∧ SameRun s ((s.setMem m).advance len) :=
  ⟨SameRegs.refl [] s, rfl, ⟨rfl, rfl⟩, by simp [SameRun, SameEnvironment]⟩

section Blocks

variable {s : State} {d a : Int} {n : Nat}

theorem copyBytes_of_eq_zero (hn : n = 0) : copyBytes s d a n = .next { s with pc := s.pc + 5 } := if_pos hn

theorem copyBytes_of_pos (hn : 0 < n) : copyBytes s d a n = withRange d n (withRange a n
    (if a < d ∧ d < a + n then .refused .copyOverlap
      else .next ((s.setMem (s.mem.copyUp d.toNat a.toNat n)).advance 5))) := if_neg hn.ne'

theorem copyBytes_moves (hwf : s.mem.wf = true) (hn : 0 < n) (hd : InMemory d n) (ha : InMemory a n)
    (hno : ¬ (a < d ∧ d < a + n)) :
    ∃ t, copyBytes s d a n = .next t ∧ t.pc = s.pc + 5 ∧
      (∀ k < n, t.mem.get (d.toNat + k) = s.mem.get (a.toNat + k)) ∧ SameMemoryOutside d n s t ∧
      SameRegs [] s t ∧ t.flags = s.flags ∧ SameConfidence s t ∧ SameRun s t := by
  have hnext := copyBytes_of_pos (s := s) (d := d) (a := a) hn
  rw [withRange_of hd, withRange_of ha, if_neg hno] at hnext
  obtain ⟨d, rfl, hdEnd⟩ := hd.exists_nat
  obtain ⟨a, rfl, -⟩ := ha.exists_nat
  have hno : ¬ (a < d ∧ d < a + n) := by exact_mod_cast hno
  exact ⟨_, hnext, rfl, fun k hk => Memory.get_copyUp_inside n hwf hdEnd hno hk,
    fun b hb => Memory.get_copyUp_outside n hwf hdEnd a (by exact_mod_cast hb), setMem_advance_frame s _ 5⟩

variable {v : Word}

theorem fillBytes_refused (hv : 255 < u32 v) : fillBytes s d v n = .refused .fillValue := if_pos hv

theorem fillBytes_of_eq_zero (hv : u32 v ≤ 255) (hn : n = 0) :
    fillBytes s d v n = .next { s with pc := s.pc + 5 } := (if_neg hv.not_gt).trans (if_pos hn)

theorem fillBytes_of_pos (hv : u32 v ≤ 255) (hn : 0 < n) : fillBytes s d v n =
    withRange d n (.next ((s.setMem (s.mem.fill d.toNat (v.setWidth 8) n)).advance 5)) :=
  (if_neg hv.not_gt).trans (if_neg hn.ne')

theorem fillBytes_fills (hwf : s.mem.wf = true) (hv : u32 v ≤ 255) (hn : 0 < n) (hd : InMemory d n) :
    ∃ t, fillBytes s d v n = .next t ∧ t.pc = s.pc + 5 ∧
      (∀ k < n, (t.mem.get (d.toNat + k)).toNat = u32 v) ∧ SameMemoryOutside d n s t ∧
      SameRegs [] s t ∧ t.flags = s.flags ∧ SameConfidence s t ∧ SameRun s t := by
  have hnext := (fillBytes_of_pos (s := s) (d := d) hv hn).trans (withRange_of hd _)
  obtain ⟨d, rfl, hdEnd⟩ := hd.exists_nat
  have hbyte : (v.setWidth 8).toNat = u32 v := by
    rw [BitVec.toNat_setWidth, Nat.mod_eq_of_lt (Nat.lt_of_le_of_lt hv (by decide))]
  refine ⟨_, hnext, rfl, fun k hk => ?_, fun b hb => ?_, setMem_advance_frame s _ 5⟩
  · refine (congrArg BitVec.toNat (Memory.get_fill n hwf hdEnd _ _)).trans ?_
    rw [if_pos (by omega), hbyte]
  · exact (Memory.get_fill n hwf hdEnd _ b).trans (if_neg (by omega))

end Blocks

/-! ### The statements -/

/-- Settles O45: LOADI and STOREI read the pointer first and then access the word it names; ATOMIC is one exchange. All
three are refused where the readings of imm16 differ. -/
theorem indirectAccessesAndAtomic : Obligations.IndirectAccessesAndAtomic := by
  refine ⟨fun s rd rs1 imm16 h hwf => ?_, fun s rd rs1 imm16 h hwf => ?_⟩
  · refine ⟨fun himm hp ha => ?_, fun himm hp ha => ?_, fun himm hp => ?_, fun himm => ?_⟩
    · exact ⟨completesX_of_withLoad (h.toNat_lt (.head _)) (exec_eq_of_withLoad (exec_loadi h himm) hp) ha,
        completesStore_of_withStore hwf (exec_eq_of_withLoad (exec_storei h himm) hp) ha⟩
    · exact ⟨exec_fault_of_withLoad (exec_eq_of_withLoad (exec_loadi h himm) hp) ha,
        exec_fault_of_withStore (exec_eq_of_withLoad (exec_storei h himm) hp) ha⟩
    · exact ⟨exec_fault_of_withLoad (exec_loadi h himm) hp, exec_fault_of_withLoad (exec_storei h himm) hp⟩
    · exact ⟨(withRegs_of h _).trans (withAgreedImm16_refused himm _),
        (withRegs_of h _).trans (withAgreedImm16_refused himm _)⟩
  · exact ⟨rfl, fun himm => exchange_completes (h.toNat_lt (.head _)) hwf (exec_atomic h himm),
      fun himm => exec_fault_of_withLoad (exec_atomic h himm),
      fun himm => (withRegs_of h _).trans (withAgreedImm16_refused himm _)⟩

/-- Settles O46: the count, the two ranges and the overlap are checked in this order before the forward copy. -/
theorem copyMovesTheSourceBytes : Obligations.CopyMovesTheSourceBytes := by
  intro s rd rs1 imm16 h hwf
  rw [exec_copy imm16 h]
  refine ⟨rfl, rfl, copyBytes_of_eq_zero, fun hn hd => ?_, fun hn hd ha => ?_, fun hn hd ha hlo hhi => ?_,
    copyBytes_moves hwf⟩
  · rw [copyBytes_of_pos hn, withRange_fault hd]
  · rw [copyBytes_of_pos hn, withRange_of hd, withRange_fault ha]
  · rw [copyBytes_of_pos hn, withRange_of hd, withRange_of ha, if_pos ⟨hlo, hhi⟩]

/-- Settles O47: the value, the count and the range are checked in this order before the fill. -/
theorem fillWritesEveryByte : Obligations.FillWritesEveryByte := by
  intro s rd rs1 imm16 h hwf
  rw [exec_fill imm16 h]
  refine ⟨rfl, fillBytes_refused, fillBytes_of_eq_zero, fun hv hn hd => ?_, fillBytes_fills hwf⟩
  rw [fillBytes_of_pos hv hn, withRange_fault hd]

end Sys2Proof.Machine

end

/-! Extended integer mathematics (spec/47_extmath_collection.md R460 to R467). -/

section

namespace Sys2Proof.Machine

/-! ### An instruction that ends with Z, or with Z and S, completes -/

theorem completesZ_of_finishZ {i : Instr} {s : State} {rd : Byte} {r : Word} {len : Nat} (h : rd.toNat < 48)
    (hi : exec i s = finishZ s rd r len) : CompletesZ i s rd r len :=
  ⟨_, hi, rfl, writesReg_setX s h r, rfl, rfl, rfl, rfl⟩

theorem completesZAndS_of_finishZAndS {i : Instr} {s : State} {rd : Byte} {r : Word} {len : Nat} (h : rd.toNat < 48)
    (hi : exec i s = finishZAndS s rd r len) : CompletesZAndS i s rd r len :=
  ⟨_, hi, rfl, writesReg_setX s h r, rfl, rfl, rfl, rfl⟩

theorem completesZ_of_unaryZ {i : Instr} {s : State} {rd rs1 : Byte} {f : Word → Word} {r : Word}
    (h : Regs32 s [rd, rs1]) (hi : exec i s = unaryZ f rd rs1 s) (hr : r = f (s.getX rs1)) : CompletesZ i s rd r 4 :=
  completesZ_of_finishZ (h.toNat_lt (.head _)) (by rw [hi, unaryZ, withRegs_of h, hr])

/-! ### Magnitude and sign (47_extmath_collection.md R460, R461) -/

/-- A word that reads as not negative reads the same unsigned. -/
theorem s32_eq_u32 {v : Word} (h : 0 ≤ s32 v) : s32 v = u32 v :=
  BitVec.toInt_eq_toNat_of_msb (BitVec.msb_eq_toInt.trans (decide_eq_false h.not_gt))

theorem absSigned_eq (v : Word) : absSigned v = wrap32 |s32 v| := by
  rw [absSigned]
  split
  next hneg => rw [abs_of_neg hneg]
  next hnonneg => rw [abs_of_nonneg (not_lt.mp hnonneg)]

theorem signOf_eq (v : Word) : signOf v = wrap32 (s32 v).sign := by
  rw [signOf]
  split
  next hneg => rw [Int.sign_eq_neg_one_of_neg hneg]; rfl
  next hnonneg =>
    split
    next hzero => rw [hzero]; rfl
    next hne =>
      have hs32 : s32 v ≠ 0 := fun h => hne (BitVec.toInt_inj.mp h)
      rw [Int.sign_eq_one_of_pos (by omega)]
      rfl

/-! ### The highest, the lowest and the number of the set bits (47_extmath_collection.md R464 to R467) -/

theorem ne_zero_of_getLsbD {v : Word} {i : Nat} (h : v.getLsbD i = true) : v ≠ 0 := by
  rintro rfl
  simp at h

theorem highestBit_eq {v : Word} {i : Nat} (hset : v.getLsbD i = true) (habove : ∀ j, i < j → v.getLsbD j = false) :
    highestBit v = i := by
  have hge : 2 ^ i ≤ v.toNat := Nat.ge_two_pow_of_testBit ((v.testBit_toNat).trans hset)
  have hlt : v.toNat < 2 ^ (i + 1) := Nat.lt_pow_two_of_testBit _ fun j hj => (v.testBit_toNat).trans (habove j hj)
  have hpos : 0 < 2 ^ i := Nat.two_pow_pos i
  exact (Nat.log2_eq_iff (by omega)).mpr ⟨hge, hlt⟩

theorem leadingZeros_eq {v : Word} {k : Nat} (hk : k < 32) (hset : v.getLsbD (31 - k) = true)
    (habove : ∀ j, 31 - k < j → v.getLsbD j = false) : leadingZeros v = k := by
  rw [leadingZeros, if_neg (ne_zero_of_getLsbD hset), highestBit_eq hset habove]
  omega

theorem trailingFrom_eq {v : Word} {n i d : Nat} (hd : d < n) (hset : v.getLsbD (i + d) = true)
    (hbelow : ∀ j < d, v.getLsbD (i + j) = false) : trailingFrom v i n = d := by
  induction n generalizing i d with
  | zero => omega
  | succ n ih =>
    rw [trailingFrom]
    cases d with
    | zero => exact if_pos hset
    | succ d =>
      have hclear : v.getLsbD i = false := hbelow 0 (by omega)
      have hrest : trailingFrom v (i + 1) n = d := by
        refine ih (by omega) (by rwa [Nat.add_right_comm]) fun j hj => ?_
        rw [Nat.add_right_comm]
        exact hbelow (j + 1) (by omega)
      rw [hclear, hrest]
      rfl

theorem lowestBit_eq {v : Word} {k : Nat} (hk : k < 32) (hset : v.getLsbD k = true)
    (hbelow : ∀ j < k, v.getLsbD j = false) : lowestBit v = k :=
  trailingFrom_eq hk (by rwa [Nat.zero_add]) fun j hj => by rw [Nat.zero_add]; exact hbelow j hj

theorem onesBelow_eq_countP (v : Word) (n : Nat) : onesBelow v n = (List.range n).countP fun k => v.getLsbD k := by
  induction n with
  | zero => rfl
  | succ n ih => rw [onesBelow, ih, List.range_succ, List.countP_append, List.countP_singleton, Nat.add_comm]

/-! ### The integer square root (47_extmath_collection.md R462) -/

/-- The root lies between `r` and `r + 2 ^ k`: each bit tried halves the range. -/
theorem isqrtFrom_eq_sqrt {a k r : Nat} (hlo : r * r ≤ a) (hhi : a < (r + 2 ^ k) * (r + 2 ^ k)) :
    isqrtFrom a k r = a.sqrt := by
  induction k generalizing r with
  | zero => exact Nat.eq_sqrt.mpr ⟨hlo, hhi⟩
  | succ k ih =>
    rw [isqrtFrom]
    split
    next hle => exact ih hle (by rwa [Nat.add_assoc, ← Nat.two_mul, ← Nat.pow_succ'])
    next hgt => exact ih hlo (not_le.mp hgt)

theorem isqrt_eq_sqrt {bits a : Nat} (h : a < 2 ^ bits * 2 ^ bits) : isqrt bits a = a.sqrt :=
  isqrtFrom_eq_sqrt (Nat.zero_le a) (by rwa [Nat.zero_add])

/-! ### Powers (47_extmath_collection.md R463) -/

/-- A base other than -1, 0 and 1 has no power above the 31st in s32. -/
theorem pow_outside_of_lt {a : Int} {b : Nat} (ha : 2 ≤ |a|) (hb : 31 < b) :
    ¬ (-2 ^ 31 ≤ a ^ b ∧ a ^ b ≤ 2 ^ 31 - 1) := by
  rintro ⟨hlo, hhi⟩
  have hbig : 2 ^ 32 ≤ |a ^ b| := calc
    (2 : Int) ^ 32 ≤ 2 ^ b := pow_le_pow_right₀ (by decide) hb
    _ ≤ |a| ^ b := pow_le_pow_left₀ (by decide) ha b
    _ = |a ^ b| := (abs_pow a b).symm
  have hsmall : |a ^ b| ≤ 2 ^ 31 := abs_le.mpr ⟨hlo, by omega⟩
  omega

/-- The model's shortcuts for -1, 0, 1 and for large exponents do not change the result. -/
theorem powSigned_eq (a : Int) (b : Nat) :
    powSigned a b = if -2 ^ 31 ≤ a ^ b ∧ a ^ b ≤ 2 ^ 31 - 1 then some (a ^ b) else none := by
  rw [powSigned]
  split
  next hzero => rw [hzero, zero_pow_eq]; split <;> rfl
  next hnezero =>
  split
  next hone => rw [hone, one_pow]; rfl
  next hneone =>
  split
  next hneg => rw [hneg, neg_one_pow_eq_ite]; simp only [Nat.even_iff]; split <;> rfl
  next hneneg =>
  split
  next hlarge =>
    have habs : 2 ≤ |a| := le_abs.mpr (by omega)
    exact (if_neg (pow_outside_of_lt habs hlarge)).symm
  next => rfl

/-! ### What SQRT, POW, LOG2 and CTZ do -/

theorem exec_sqrt {s : State} {rd rs1 : Byte} (ign : Byte) (h : Regs32 s [rd, rs1]) :
    exec (.sqrt rd rs1 ign) s = if s32 (s.getX rs1) < 0 then .refused .sqrtNegative
      else finishZ s rd (BitVec.ofNat 32 (isqrt 16 (u32 (s.getX rs1)))) 4 := withRegs_of h _

theorem exec_pow_refused {s : State} {rd rs1 rs2 : Byte} (h : Regs32 s [rd, rs1, rs2]) (hb : s32 (s.getX rs2) < 0) :
    exec (.pow rd rs1 rs2) s = .refused .powNegativeExponent := (withRegs_of h _).trans (if_pos hb)

/-- An exponent that is not negative leaves the power itself to decide: it is written, or it is outside s32. -/
theorem exec_pow {s : State} {rd rs1 rs2 : Byte} (h : Regs32 s [rd, rs1, rs2]) (hb : 0 ≤ s32 (s.getX rs2)) :
    exec (.pow rd rs1 rs2) s =
      ((powSigned (s32 (s.getX rs1)) (s32 (s.getX rs2)).toNat).elim (.refused .powOverflow)
        fun p => finishZAndS s rd (wrap32 p) 4) := by
  have hexp : (s32 (s.getX rs2)).toNat = u32 (s.getX rs2) := by rw [s32_eq_u32 hb, Int.toNat_natCast]
  refine (withRegs_of h _).trans ((if_neg hb.not_gt).trans ?_)
  rw [hexp]
  cases powSigned (s32 (s.getX rs1)) (u32 (s.getX rs2)) with
  | none => rfl
  | some p => rfl

theorem exec_log2 {s : State} {rd rs1 : Byte} (ign : Byte) (h : Regs32 s [rd, rs1]) :
    exec (.log2 rd rs1 ign) s = if s32 (s.getX rs1) ≤ 0 then .fault (.domainError s.pc)
      else finishZ s rd (BitVec.ofNat 32 (highestBit (s.getX rs1))) 4 := withRegs_of h _

theorem exec_ctz {s : State} {rd rs1 : Byte} (ign : Byte) (h : Regs32 s [rd, rs1]) :
    exec (.ctz rd rs1 ign) s = if s.getX rs1 = 0 then .next (((s.setX rd (Config.anyWord s.draws)).flagZAny).advance 4)
      else finishZ s rd (BitVec.ofNat 32 (lowestBit (s.getX rs1))) 4 := withRegs_of h _

/-! ### The statements -/

/-- Settles O57: each writes one function of its source's value, which is the rule's result. -/
theorem absSignAndCounts : Obligations.AbsSignAndCounts := by
  intro s rd rs1 ign h v
  have hclz {k : Nat} (hk : leadingZeros v = k) : CompletesZ (.clz rd rs1 ign) s rd (BitVec.ofNat 32 k) 4 :=
    completesZ_of_unaryZ (f := fun w => BitVec.ofNat 32 (leadingZeros w)) h rfl (congrArg (BitVec.ofNat 32) hk.symm)
  refine ⟨?_, completesZ_of_unaryZ h rfl (signOf_eq v).symm, fun hzero => hclz (if_pos hzero),
    fun k hk hset habove => hclz (leadingZeros_eq hk hset habove), ?_⟩
  · rw [← absSigned_eq]
    exact completesZAndS_of_finishZAndS (h.toNat_lt (.head _)) (withRegs_of h _)
  · rw [← onesBelow_eq_countP]
    exact completesZ_of_unaryZ (f := fun w => BitVec.ofNat 32 (popCount w)) h rfl rfl

/-- SQRT of a value that is not negative, the root given by its bounds (47_extmath_collection.md R462). -/
theorem sqrt_completes {s : State} {rd rs1 : Byte} (ign : Byte) (h : Regs32 s [rd, rs1]) {n : Nat}
    (hlo : (n * n : Int) ≤ s32 (s.getX rs1)) (hhi : s32 (s.getX rs1) < ((n + 1) * (n + 1) : Int)) :
    CompletesZ (.sqrt rd rs1 ign) s rd (BitVec.ofNat 32 n) 4 := by
  have hnonneg : 0 ≤ s32 (s.getX rs1) := le_trans (mul_self_nonneg _) hlo
  rw [s32_eq_u32 hnonneg] at hlo hhi
  have hroot : n = (u32 (s.getX rs1)).sqrt := Nat.eq_sqrt.mpr ⟨by exact_mod_cast hlo, by exact_mod_cast hhi⟩
  refine completesZ_of_finishZ (h.toNat_lt (.head _)) ?_
  rw [exec_sqrt ign h, if_neg hnonneg.not_gt, isqrt_eq_sqrt (s.getX rs1).isLt, hroot]

/-- Settles O58: the model's bitwise root is the square root, and its case-split power is the power. -/
theorem sqrtAndPow : Obligations.SqrtAndPow := by
  intro s rd rs1 rs2 ign h a b
  have hsqrt : Regs32 s [rd, rs1] := h.mono (by simp)
  refine ⟨fun n => sqrt_completes ign hsqrt, fun ha => ⟨a.toNat.sqrt, ?_, ?_⟩, fun ha => ?_, fun hb hlo hhi => ?_,
    fun hb hout => ?_, exec_pow_refused h⟩
  · have hle := Nat.sqrt_le a.toNat
    zify at hle
    rwa [Int.toNat_of_nonneg ha] at hle
  · have hlt := Nat.lt_succ_sqrt a.toNat
    zify at hlt
    rwa [Int.toNat_of_nonneg ha] at hlt
  · exact (exec_sqrt ign hsqrt).trans (if_pos ha)
  · refine completesZAndS_of_finishZAndS (h.toNat_lt (.head _)) ?_
    rw [exec_pow h hb, powSigned_eq, if_pos ⟨hlo, hhi⟩]
    rfl
  · have houtside : ¬ (-2 ^ 31 ≤ a ^ b.toNat ∧ a ^ b.toNat ≤ 2 ^ 31 - 1) := by omega
    rw [exec_pow h hb, powSigned_eq, if_neg houtside]
    rfl

/-- Settles O59: the index LOG2 writes is that of the highest set bit, the one CTZ writes that of the lowest. -/
theorem log2AndCtz : Obligations.Log2AndCtz := by
  intro s rd rs1 ign h v
  have hrd : rd.toNat < 48 := h.toNat_lt (.head _)
  refine ⟨fun k hlo hhi => completesZ_of_finishZ hrd ?_, fun hv => (exec_log2 ign h).trans (if_pos hv),
    fun k hk hset hbelow => completesZ_of_finishZ hrd ?_, fun hv => ?_⟩
  · have hpos : 0 < s32 v := lt_of_lt_of_le (by positivity) hlo
    have hsame : s32 v = u32 v := s32_eq_u32 hpos.le
    have hne : u32 v ≠ 0 := by omega
    rw [hsame] at hlo hhi
    have hindex : highestBit v = k :=
      (Nat.log2_eq_iff hne).mpr ⟨by exact_mod_cast hlo, by exact_mod_cast hhi⟩
    rw [exec_log2 ign h, if_neg hpos.not_ge, hindex]
  · rw [exec_ctz ign h, if_neg (ne_zero_of_getLsbD hset), lowestBit_eq hk hset hbelow]
  · have hnext := (exec_ctz ign h).trans (if_pos hv)
    exact ⟨_, _, hnext, rfl, writesReg_setX s hrd (Config.anyWord s.draws), rfl, rfl, rfl⟩

end Sys2Proof.Machine

end

/-! C_THRESH and the agent-to-agent instructions (spec/48_confidence_a2a.md R521 and R530). -/

section

namespace Sys2Proof.Machine

/-! ### The bytecode at an address is its byte there and the rest, or nothing outside it (10_state.md R43) -/

theorem State.codeFrom_of_outside {s : State} {a : Int} (h : a < 0 ∨ s.code.length ≤ a) : s.codeFrom a = [] := by
  rw [State.codeFrom]
  split
  · rfl
  · exact List.drop_eq_nil_of_le (by omega)

theorem State.codeFrom_of_byte {s : State} {a : Int} {op : Byte} (hnonneg : 0 ≤ a)
    (hop : s.code[a.toNat]? = some op) : s.codeFrom a = op :: s.code.drop (a.toNat + 1) := by
  obtain ⟨hlt, rfl⟩ := List.getElem?_eq_some_iff.mp hop
  rw [State.codeFrom, if_neg hnonneg.not_gt, List.drop_eq_getElem_cons hlt]

/-! ### What the skip and C_THRESH do -/

theorem skipNext_fault {s : State} {n : Nat} (h : s.npc n < 0 ∨ s.code.length ≤ s.npc n) :
    skipNext s n = .fault (.fetchFault (s.npc n)) := by
  rw [skipNext, State.codeFrom_of_outside h, raise]

/-- The opcode byte alone decides how far the skip goes: the operand bytes after it may be missing (30_encoding.md R121). -/
theorem skipNext_of_length {s : State} {n : Nat} {op : Byte} {len : Nat} (hnonneg : 0 ≤ s.npc n)
    (hop : s.code[(s.npc n).toNat]? = some op) (hlen : opLength op = some len) :
    skipNext s n = .next (s.setPc (s.npc n + len)) := by
  simp only [skipNext, State.codeFrom_of_byte hnonneg hop, hlen]

theorem skipNext_refused {s : State} {n : Nat} {op : Byte} (hnonneg : 0 ≤ s.npc n)
    (hop : s.code[(s.npc n).toNat]? = some op) (hreserved : opLength op = none) :
    skipNext s n = .refused .cThreshSkipReserved := by
  simp only [skipNext, State.codeFrom_of_byte hnonneg hop, hreserved, refuse]

theorem exec_cThresh {s : State} {rd : Byte} (imm8 : Byte) (h : NamesCell s rd) :
    exec (.cThresh rd imm8) s =
      if (s.getC rd).val < (Conf.ofByte s.params.conf imm8).val then skipNext s 3 else .next (s.advance 3) :=
  (withCell_of h _).trans (by simp only [Conf.lt, decide_eq_true_iff, finish_eq])

/-! ### The statements -/

/-- Settles O56: not below the threshold C_THRESH only advances; below it, it skips by what stands at the next address. -/
theorem confThreshSkipsOneInstruction : Obligations.ConfThreshSkipsOneInstruction := by
  intro s rd imm8 h t npc
  have hskip (hlt : (s.getC rd).val < t.val) : exec (.cThresh rd imm8) s = skipNext s 3 :=
    (exec_cThresh imm8 h).trans (if_pos hlt)
  exact ⟨fun hle => (exec_cThresh imm8 h).trans (if_neg hle.not_gt),
    fun hlt hout => (hskip hlt).trans (skipNext_fault hout),
    fun hlt hnonneg op hop =>
      ⟨fun len hlen => (hskip hlt).trans (skipNext_of_length hnonneg hop hlen),
        fun hreserved => (hskip hlt).trans (skipNext_refused hnonneg hop hreserved)⟩⟩

/-- Settles O22: each of the sixteen arms refuses before it reads an operand or the state. -/
theorem agentToAgentRefusals : Obligations.AgentToAgentRefusals := by
  and_intros <;> exact fun _ _ _ _ => rfl

end Sys2Proof.Machine

end

/-! The instructions that stop on their opcode byte (spec/60_exceptions.md R605 and R603): the illegal opcodes
and WFI. -/

section

namespace Sys2Proof.Machine

/-! ### The row an opcode byte selects holds instructions of that opcode byte (30_encoding.md R154) -/

/-- The instruction a shape gives for operand bytes and an imm16; a shape takes those its format has. -/
def instrOfShape (b₁ b₂ b₃ : Byte) (h : Half) : Shape → Instr
  | .stop i | .a i => i
  | .b f | .c f => f b₁
  | .d f => f b₁ b₂
  | .e f => f b₁ b₂ b₃
  | .f f => f b₁ h
  | .g f => f b₁ b₂ h

theorem instrOfShape_of_decode {o : ByteOrder} {op : Byte} {operands rest : List Byte} {i : Instr}
    (hdec : decode o (op :: operands) = .ok (i, rest)) : ∃ b₁ b₂ b₃ h, instrOfShape b₁ b₂ b₃ h (shapeOf op) = i := by
  simp only [decode] at hdec
  split at hdec <;> cases hdec <;> rename_i hshape <;> rw [hshape]
  case h_1 | h_2 => exact ⟨0, 0, 0, 0, rfl⟩
  case h_3 b₁ | h_4 b₁ => exact ⟨b₁, 0, 0, 0, rfl⟩
  case h_5 b₁ b₂ => exact ⟨b₁, b₂, 0, 0, rfl⟩
  case h_6 b₁ b₂ b₃ => exact ⟨b₁, b₂, b₃, 0, rfl⟩
  case h_7 b₁ b₂ b₃ => exact ⟨b₁, 0, 0, halfOf o b₂ b₃, rfl⟩
  case h_8 b₁ b₂ b₃ b₄ => exact ⟨b₁, b₂, 0, halfOf o b₃ b₄, rfl⟩

section

variable (b₁ b₂ b₃ : Byte) (h : Half)

/-- The opcode map lists the opcode bytes in order, whatever the operand bytes (30_encoding.md R140). -/
theorem opcodeTable_opcodes : opcodeTable.map (List.map fun shape => opcodeOf (instrOfShape b₁ b₂ b₃ h shape)) =
    (List.range 16).map fun row => (List.range 16).map fun column => BitVec.ofNat 8 (16 * row + column) := rfl

theorem opcodeOf_instrOfShape (op : Byte) : opcodeOf (instrOfShape b₁ b₂ b₃ h (shapeOf op)) = op := by
  have hrow : op.toNat / 16 < 16 := by omega
  have hcolumn : op.toNat % 16 < 16 := by omega
  calc opcodeOf (instrOfShape b₁ b₂ b₃ h (shapeOf op))
    _ = ((opcodeTable.map (List.map fun shape => opcodeOf (instrOfShape b₁ b₂ b₃ h shape))).getD (op.toNat / 16)
          (List.map _ [])).getD (op.toNat % 16) (opcodeOf (instrOfShape b₁ b₂ b₃ h (.stop .illegal))) := by
        rw [List.getD_map, List.getD_map _ _ (fun shape => opcodeOf (instrOfShape b₁ b₂ b₃ h shape)), shapeOf]
    _ = BitVec.ofNat 8 (16 * (op.toNat / 16) + op.toNat % 16) := by
        simp [opcodeTable_opcodes, hrow, hcolumn]
    _ = op := by rw [Nat.div_add_mod, BitVec.ofNat_toNat, BitVec.setWidth_eq]

end

/-- The instruction read is the one of the opcode byte read. -/
theorem opcodeOf_of_decode {o : ByteOrder} {op : Byte} {operands rest : List Byte} {i : Instr}
    (hdec : decode o (op :: operands) = .ok (i, rest)) : opcodeOf i = op := by
  obtain ⟨b₁, b₂, b₃, h, rfl⟩ := instrOfShape_of_decode hdec
  exact opcodeOf_instrOfShape b₁ b₂ b₃ h op

/-! ### Fetching and stepping -/

theorem State.byte_of_codeFrom {s : State} {a : Int} {op : Byte} {operands : List Byte}
    (h : s.codeFrom a = op :: operands) : 0 ≤ a ∧ s.code[a.toNat]? = some op := by
  rw [State.codeFrom] at h
  split at h
  · cases h
  · exact ⟨by omega, by rw [← Nat.add_zero a.toNat, ← List.getElem?_drop, h]; rfl⟩

/-- A fetched instruction is that of the opcode byte at `pc`, which is inside the bytecode (10_state.md R43). -/
theorem fetchInstr_ok {s : State} {i : Instr} (h : fetchInstr s = .ok i) :
    0 ≤ s.pc ∧ s.code[s.pc.toNat]? = some (opcodeOf i) := by
  unfold fetchInstr at h
  split at h <;> cases h
  next rest hdec =>
    cases hcode : s.codeFrom s.pc with
    | nil => rw [hcode] at hdec; cases hdec
    | cons op operands =>
      rw [hcode] at hdec
      rw [opcodeOf_of_decode hdec]
      exact State.byte_of_codeFrom hcode

theorem fetchInstr_error {s : State} {f : Fault} (h : fetchInstr s = .error f) : f = .fetchFault s.pc := by
  unfold fetchInstr at h
  split at h <;> cases h
  rfl

/-- An opcode byte that is an instruction by itself is fetched whatever follows it (30_encoding.md R150). -/
theorem fetchInstr_of_byte {s : State} {op : Byte} {i : Instr} (hnonneg : 0 ≤ s.pc)
    (hop : s.code[s.pc.toNat]? = some op) (hdec : ∀ o operands, decode o (op :: operands) = .ok (i, operands)) :
    fetchInstr s = .ok i := by
  rw [fetchInstr, State.codeFrom_of_byte hnonneg hop, hdec]

theorem ended_eq_false_iff {s : State} : s.ended = false ↔ Runs s := by
  simp [State.ended, Runs]

theorem step_of_fetch {s : State} {i : Instr} (hruns : Runs s) (hfetch : fetchInstr s = .ok i) :
    step s = Counted (exec i s) := by
  simp only [step, ended_eq_false_iff.mpr hruns, hfetch]
  rfl

/-- A step faults in the fetch, or with the fault of the instruction whose opcode byte is at `pc`. -/
theorem step_fault {s : State} {f : Fault} (h : step s = .fault f) : Runs s ∧
    (f = .fetchFault s.pc ∨
      ∃ i, 0 ≤ s.pc ∧ s.code[s.pc.toNat]? = some (opcodeOf i) ∧ exec i s = .fault f) := by
  unfold step at h
  split at h
  next => cases h
  next hended =>
    refine ⟨ended_eq_false_iff.mp (Bool.eq_false_iff.mpr hended), ?_⟩
    split at h
    next hfetch =>
      cases h
      exact .inl (fetchInstr_error hfetch)
    next i hfetch =>
      obtain ⟨hnonneg, hop⟩ := fetchInstr_ok hfetch
      split at h <;> cases h
      next hexec => exact .inr ⟨i, hnonneg, hop, hexec⟩

/-- A state is stuck where the step answers the stuck end (60_exceptions.md R604). -/
theorem status_eq_stuck_iff {s : State} : s.status = .stuck ↔ ∃ p, step s = .fault (.stuck p) := by
  constructor
  · intro h
    unfold State.status at h
    repeat' split at h
    all_goals cases h
    next p hstep => exact ⟨p, hstep⟩
  · rintro ⟨p, hstep⟩
    obtain ⟨⟨hhalted, hcycles⟩, -⟩ := step_fault hstep
    simp [State.status, hhalted, hcycles, hstep]

/-! ### The faults a result can hold -/

/-- If the result is a fault, `P` holds of it. -/
def FaultsIn (P : Fault → Prop) (r : Result) : Prop := ∀ f, r = .fault f → P f

section

variable {P : Fault → Prop} {s : State}

theorem faultsIn_next (t : State) : FaultsIn P (.next t) := fun _ h => nomatch h

theorem faultsIn_refused (q : Refusal) : FaultsIn P (.refused q) := fun _ h => nomatch h

theorem faultsIn_fault {f : Fault} (hf : P f) : FaultsIn P (.fault f) := by
  rintro _ ⟨⟩
  exact hf

theorem faultsIn_ite {c : Prop} [Decidable c] {a b : Result} (ha : FaultsIn P a) (hb : FaultsIn P b) :
    FaultsIn P (if c then a else b) := by
  split
  · exact ha
  · exact hb

/-! #### Validation refuses, and what it lets pass decides the fault -/

theorem faultsIn_withRegs {rs : List Byte} {k : Result} (hk : FaultsIn P k) : FaultsIn P (withRegs s rs k) := by
  unfold withRegs
  split
  · exact faultsIn_refused _
  · exact hk

theorem faultsIn_withCell {r : Byte} {k : Result} (hk : FaultsIn P k) : FaultsIn P (withCell s r k) :=
  faultsIn_ite (faultsIn_refused _) hk

theorem faultsIn_withAgreedImm16 {i : Half} {k : Nat → Result} (hk : ∀ n, FaultsIn P (k n)) :
    FaultsIn P (withAgreedImm16 i k) :=
  faultsIn_ite (faultsIn_refused _) (hk _)

theorem faultsIn_withShiftCount {i : Byte} {k : Nat → Result} (hk : ∀ n, FaultsIn P (k n)) :
    FaultsIn P (withShiftCount i k) :=
  faultsIn_ite (faultsIn_refused _) (hk _)

/-! #### The checks that raise -/

theorem faultsIn_withDivisor {r : Byte} {k : Result} (hP : P (.divideByZero s.pc)) (hk : FaultsIn P k) :
    FaultsIn P (withDivisor s r k) :=
  faultsIn_ite (faultsIn_fault hP) hk

theorem faultsIn_withFloatDivisor {r : Byte} {k : Result} (hP : P (.divideByZero s.pc)) (hk : FaultsIn P k) :
    FaultsIn P (withFloatDivisor s r k) :=
  faultsIn_ite (faultsIn_fault hP) hk

theorem faultsIn_skipNext {n : Nat} (hP : P (.fetchFault (s.npc n))) : FaultsIn P (skipNext s n) := by
  unfold skipNext
  split
  · exact faultsIn_fault hP
  · split
    · exact faultsIn_refused _
    · exact faultsIn_next _

variable (hP : ∀ a, P (.memoryFault a))
include hP

theorem faultsIn_withLoad {a : Int} {k : Word → Result} (hk : ∀ v, FaultsIn P (k v)) : FaultsIn P (withLoad s a k) := by
  unfold withLoad
  split
  · exact hk _
  · exact faultsIn_fault (hP a)

theorem faultsIn_withStore {a : Int} {v : Word} {k : State → Result} (hk : ∀ t, FaultsIn P (k t)) :
    FaultsIn P (withStore s a v k) := by
  unfold withStore
  split
  · exact hk _
  · exact faultsIn_fault (hP a)

theorem faultsIn_withPush {v : Word} {k : State → Result} (hk : ∀ t, FaultsIn P (k t)) : FaultsIn P (withPush s v k) :=
  faultsIn_withStore hP fun _ => hk _

theorem faultsIn_withPop {k : Word → State → Result} (hk : ∀ v t, FaultsIn P (k v t)) : FaultsIn P (withPop s k) :=
  faultsIn_withLoad hP fun _ => hk _ _

theorem faultsIn_withRange {a : Int} {n : Nat} {k : Result} (hk : FaultsIn P k) : FaultsIn P (withRange a n k) :=
  faultsIn_ite hk (faultsIn_fault (hP a))

theorem faultsIn_copyBytes {d a : Int} {n : Nat} : FaultsIn P (copyBytes s d a n) :=
  faultsIn_ite (faultsIn_next _)
    (faultsIn_withRange hP (faultsIn_withRange hP (faultsIn_ite (faultsIn_refused _) (faultsIn_next _))))

theorem faultsIn_fillBytes {d : Int} {v : Word} {n : Nat} : FaultsIn P (fillBytes s d v n) :=
  faultsIn_ite (faultsIn_refused _) (faultsIn_ite (faultsIn_next _) (faultsIn_withRange hP (faultsIn_next _)))

end

/-! ### Which instruction raises IllegalOpcode, and which is stuck (60_exceptions.md R605, R603) -/

/-- The nine reserved slots and ILLEGAL (60_exceptions.md R605). -/
def illegalOpcodes : List Byte := [0xDF, 0xED, 0xEE, 0xEF, 0xFA, 0xFB, 0xFC, 0xFD, 0xFE, 0xFF]

/-- Of the faults that the opcode byte alone decides: IllegalOpcode is an illegal opcode's own, stuck is WFI's. -/
def Fault.OfOpcode (op : Byte) : Fault → Prop
  | .illegalOpcode raised => raised = op ∧ op ∈ illegalOpcodes
  | .stuck _ => op = 0x05
  | _ => True

/-- A memory fault may come from any opcode byte. -/
theorem ofOpcode_memoryFault {op : Byte} (a : Int) : Fault.OfOpcode op (.memoryFault a) := trivial

theorem exec_faultsIn (i : Instr) (s : State) : FaultsIn (Fault.OfOpcode (opcodeOf i)) (exec i s) := by
  cases i
  case wfi => exact faultsIn_fault rfl
  case reservedDF | reservedED | reservedEE | reservedEF | reservedFA | reservedFB | reservedFC | reservedFD |
      reservedFE | illegal => exact faultsIn_fault ⟨rfl, by decide⟩
  case brk => exact faultsIn_fault trivial
  -- Memory
  case load | loadoff =>
    exact faultsIn_withRegs (faultsIn_withLoad ofOpcode_memoryFault fun _ => faultsIn_next _)
  case store | storeoff =>
    exact faultsIn_withRegs (faultsIn_withStore ofOpcode_memoryFault fun _ => faultsIn_next _)
  case push | call | calll =>
    exact faultsIn_withRegs (faultsIn_withPush ofOpcode_memoryFault fun _ => faultsIn_next _)
  case pop =>
    exact faultsIn_withRegs
      (faultsIn_ite (faultsIn_refused _) (faultsIn_withPop ofOpcode_memoryFault fun _ _ => faultsIn_next _))
  case ret =>
    exact faultsIn_ite (faultsIn_next _) (faultsIn_withPop ofOpcode_memoryFault fun _ _ => faultsIn_next _)
  case loadi =>
    exact faultsIn_withRegs (faultsIn_withAgreedImm16 fun _ => faultsIn_withLoad ofOpcode_memoryFault fun _ =>
      faultsIn_withLoad ofOpcode_memoryFault fun _ => faultsIn_next _)
  case storei | atomic =>
    exact faultsIn_withRegs (faultsIn_withAgreedImm16 fun _ => faultsIn_withLoad ofOpcode_memoryFault fun _ =>
      faultsIn_withStore ofOpcode_memoryFault fun _ => faultsIn_next _)
  case copy => exact faultsIn_withRegs (faultsIn_copyBytes ofOpcode_memoryFault)
  case fill => exact faultsIn_withRegs (faultsIn_fillBytes ofOpcode_memoryFault)
  case crc32 => exact faultsIn_withRegs (faultsIn_ite (faultsIn_fault trivial) (faultsIn_next _))
  -- Divisors and domains
  case div | mod | cDiv => exact faultsIn_withRegs (faultsIn_withDivisor trivial (faultsIn_next _))
  case fdiv | cFdiv => exact faultsIn_withRegs (faultsIn_withFloatDivisor trivial (faultsIn_next _))
  case log2 | fsqrt => exact faultsIn_withRegs (faultsIn_ite (faultsIn_fault trivial) (faultsIn_next _))
  -- Operands that are refused
  case shli | shri => exact faultsIn_withRegs (faultsIn_withShiftCount fun _ => faultsIn_next _)
  case loop =>
    exact faultsIn_withRegs (faultsIn_withAgreedImm16 fun _ => faultsIn_ite (faultsIn_next _) (faultsIn_next _))
  case select => exact faultsIn_withRegs (faultsIn_withAgreedImm16 fun _ => faultsIn_next _)
  case dbg | cache => exact faultsIn_ite (faultsIn_refused _) (faultsIn_next _)
  case sqrt | rnd => exact faultsIn_withRegs (faultsIn_ite (faultsIn_refused _) (faultsIn_next _))
  case ctz | jz | jnz | jlt | jgt =>
    exact faultsIn_withRegs (faultsIn_ite (faultsIn_next _) (faultsIn_next _))
  case pow =>
    refine faultsIn_withRegs (faultsIn_ite (faultsIn_refused _) ?_)
    split
    · exact faultsIn_refused _
    · exact faultsIn_next _
  case ftoi =>
    refine faultsIn_withRegs ?_
    split
    · exact faultsIn_refused _
    · exact faultsIn_next _
  -- Confidence cells
  case confLd | confSt => exact faultsIn_withCell (faultsIn_next _)
  case cThresh => exact faultsIn_withCell (faultsIn_ite (faultsIn_skipNext trivial) (faultsIn_next _))
  -- Those that always complete
  case halt | nop | reset | syn | clf | yield | jmp | jmpl => exact faultsIn_next _
  -- Those that complete where their registers are valid
  case inc | dec | not | neg | movi | addi | subi | andi | ori | xori | add | sub | mul | and | or | xor | shl | shr |
      min | max | cmpEq | cmpLt | cmpGt | cmpNe | fadd | fsub | fmul | fmin | fmax | itof | mov | swp | movi16 |
      addi16 | subi16 | jal | jall | cAdd | cSub | cMul | cFadd | cFsub | cFmul | abs | sign | clz | popcnt | seed |
      fmod | fsin | fcos => exact faultsIn_withRegs (faultsIn_next _)
  -- The others have no meaning of their own and are refused
  all_goals exact faultsIn_refused _

/-- One of the ten opcode bytes is an instruction by itself, which raises IllegalOpcode with it. -/
theorem illegalOpcodes_stop {op : Byte} (h : op ∈ illegalOpcodes) :
    ∃ i, (∀ o operands, decode o (op :: operands) = .ok (i, operands)) ∧
      ∀ s, exec i s = .fault (.illegalOpcode op) := by
  simp only [illegalOpcodes, List.mem_cons, List.not_mem_nil, or_false] at h
  obtain rfl | rfl | rfl | rfl | rfl | rfl | rfl | rfl | rfl | rfl := h <;>
    exact ⟨_, fun _ _ => rfl, fun _ => rfl⟩

/-! ### The statements -/

/-- Settles O9: only the ten opcode bytes decode to an instruction that raises IllegalOpcode, and they do so alone. -/
theorem illegalOpcodeExactlyAtReservedSlots : Obligations.IllegalOpcodeExactlyAtReservedSlots := by
  intro s op
  constructor
  · intro h
    obtain ⟨hruns, hfetch | ⟨i, hnonneg, hop, hexec⟩⟩ := step_fault h
    · cases hfetch
    · obtain ⟨rfl, hillegal⟩ := exec_faultsIn i s _ hexec
      exact ⟨hruns, hnonneg, hop, hillegal⟩
  · rintro ⟨hruns, hnonneg, hop, hillegal⟩
    obtain ⟨i, hdec, hexec⟩ := illegalOpcodes_stop hillegal
    rw [step_of_fetch hruns (fetchInstr_of_byte hnonneg hop hdec), hexec, Counted]

/-- Settles O11: only the opcode byte 0x05 decodes to an instruction that answers the stuck end. -/
theorem wfiAloneIsStuck : Obligations.WfiAloneIsStuck := by
  intro s
  rw [status_eq_stuck_iff]
  constructor
  · rintro ⟨p, h⟩
    obtain ⟨hruns, hfetch | ⟨i, hnonneg, hop, hexec⟩⟩ := step_fault h
    · cases hfetch
    · have hwfi : opcodeOf i = 0x05 := exec_faultsIn i s _ hexec
      exact ⟨hruns, hnonneg, hwfi ▸ hop⟩
  · rintro ⟨hruns, hnonneg, hop⟩
    have hfetch : fetchInstr s = .ok .wfi := fetchInstr_of_byte hnonneg hop fun _ _ => rfl
    exact ⟨s.pc, step_of_fetch hruns hfetch⟩

end Sys2Proof.Machine

end

/-! The decoder and the encoder undo one another (spec/30_encoding.md sections 1 to 3), and the opcode byte alone selects
the row and its length (section 5). -/

section

namespace Sys2Proof.Machine

/-! ### The two bytes of imm16 (30_encoding.md R131) -/

/-- Either order puts the two bytes of an imm16 back where they came from. -/
theorem exists_halfBytes_eq (o : ByteOrder) (h : Half) :
    ∃ atLower atHigher, halfBytes o h = [atLower, atHigher] ∧ halfOf o atLower atHigher = h := by
  have hsplit : h.extractLsb' 8 8 ++ h.extractLsb' 0 8 = h :=
    (BitVec.extractLsb'_append_extractLsb'_eq_extractLsb' rfl).trans BitVec.extractLsb'_eq_self
  cases o with
  | little => exact ⟨_, _, rfl, hsplit⟩
  | hiFirst => exact ⟨_, _, rfl, hsplit⟩

theorem halfBytes_halfOf (o : ByteOrder) (atLower atHigher : Byte) :
    halfBytes o (halfOf o atLower atHigher) = [atLower, atHigher] := by
  cases o with
  | little =>
    exact congrArg₂ (fun a b => [a, b]) BitVec.extractLsb'_append_eq_right BitVec.extractLsb'_append_eq_left
  | hiFirst =>
    exact congrArg₂ (fun a b => [a, b]) BitVec.extractLsb'_append_eq_left BitVec.extractLsb'_append_eq_right

/-! ### What a shape says of the bytes: how many it takes, and which they are -/

/-- The bytes a shape reads for the operands `instrOfShape` gives it, the opcode byte `op` first (30_encoding.md R123 to
R129). -/
def bytesOfShape (o : ByteOrder) (op b₁ b₂ b₃ : Byte) (h : Half) : Shape → List Byte
  | .stop _ | .a _ => [op]
  | .b _ | .c _ => [op, b₁]
  | .d _ => [op, b₁, b₂]
  | .e _ => [op, b₁, b₂, b₃]
  | .f _ => op :: b₁ :: halfBytes o h
  | .g _ => op :: b₁ :: b₂ :: halfBytes o h

/-- Decoding gives back the operands of the bytes of a shape. -/
theorem decode_bytesOfShape (o : ByteOrder) (op b₁ b₂ b₃ : Byte) (h : Half) (rest : List Byte) :
    decode o (bytesOfShape o op b₁ b₂ b₃ h (shapeOf op) ++ rest) =
      .ok (instrOfShape b₁ b₂ b₃ h (shapeOf op), rest) := by
  obtain ⟨atLower, atHigher, hbytes, hhalf⟩ := exists_halfBytes_eq o h
  cases hshape : shapeOf op with
  | stop | a | b | c | d | e => simp [bytesOfShape, instrOfShape, decode, hshape]
  | f | g => simp [bytesOfShape, instrOfShape, decode, hshape, hbytes, hhalf]

/-- A byte string that decodes begins with the bytes of the shape its opcode byte selects, and the instruction is the
one that shape gives for them. -/
theorem bytesOfShape_of_decode {o : ByteOrder} {op : Byte} {operands rest : List Byte} {i : Instr}
    (hdec : decode o (op :: operands) = .ok (i, rest)) :
    ∃ b₁ b₂ b₃ h, i = instrOfShape b₁ b₂ b₃ h (shapeOf op) ∧
      op :: operands = bytesOfShape o op b₁ b₂ b₃ h (shapeOf op) ++ rest := by
  simp only [decode] at hdec
  split at hdec <;> cases hdec <;> rename_i hshape <;> rw [hshape]
  case h_1 | h_2 => exact ⟨0, 0, 0, 0, rfl, rfl⟩
  case h_3 b₁ | h_4 b₁ => exact ⟨b₁, 0, 0, 0, rfl, rfl⟩
  case h_5 b₁ b₂ => exact ⟨b₁, b₂, 0, 0, rfl, rfl⟩
  case h_6 b₁ b₂ b₃ => exact ⟨b₁, b₂, b₃, 0, rfl, rfl⟩
  case h_7 b₁ b₂ b₃ => exact ⟨b₁, 0, 0, halfOf o b₂ b₃, rfl, by simp [bytesOfShape, halfBytes_halfOf]⟩
  case h_8 b₁ b₂ b₃ b₄ => exact ⟨b₁, b₂, 0, halfOf o b₃ b₄, rfl, by simp [bytesOfShape, halfBytes_halfOf]⟩

/-! ### The encoder writes the bytes of the row of its opcode byte -/

theorem shapeOf_mem (op : Byte) : ∃ row ∈ opcodeTable, shapeOf op ∈ row := by
  have hrow : op.toNat / 16 < opcodeTable.length := by
    have hlength : opcodeTable.length = 16 := rfl
    omega
  have hcolumns : ∀ row ∈ opcodeTable, row.length = 16 := by
    have hlengths : opcodeTable.map List.length = List.replicate 16 16 := rfl
    intro row hmem
    exact List.eq_of_mem_replicate (hlengths ▸ List.mem_map_of_mem hmem)
  have hmem : opcodeTable[op.toNat / 16] ∈ opcodeTable := List.getElem_mem hrow
  have hcolumn : op.toNat % 16 < opcodeTable[op.toNat / 16].length := by
    rw [hcolumns _ hmem]
    omega
  refine ⟨_, hmem, ?_⟩
  rw [shapeOf, List.getD_eq_getElem _ _ hrow, List.getD_eq_getElem _ _ hcolumn]
  exact List.getElem_mem hcolumn

/-- What two functions agree on throughout the opcode map they agree on for the row of every opcode byte. -/
theorem eq_at_shapeOf {α : Type} {A B : Shape → α} (h : opcodeTable.map (List.map A) = opcodeTable.map (List.map B))
    (op : Byte) : A (shapeOf op) = B (shapeOf op) := by
  obtain ⟨row, hrow, hshape⟩ := shapeOf_mem op
  exact List.map_inj_left.mp (List.map_inj_left.mp h row hrow) _ hshape

theorem encode_instrOfShape (o : ByteOrder) (op b₁ b₂ b₃ : Byte) (h : Half) :
    encode o (instrOfShape b₁ b₂ b₃ h (shapeOf op)) = bytesOfShape o op b₁ b₂ b₃ h (shapeOf op) := by
  have hrow := eq_at_shapeOf (A := fun shape => encode o (instrOfShape b₁ b₂ b₃ h shape))
    (B := fun shape => bytesOfShape o (opcodeOf (instrOfShape b₁ b₂ b₃ h shape)) b₁ b₂ b₃ h shape) rfl op
  rwa [opcodeOf_instrOfShape] at hrow

/-- Every instruction is one that the row of its opcode byte gives: the encoder and the opcode map list the same rows
(30_encoding.md R140). The fields its format does not have are 0. -/
theorem exists_instrOfShape (i : Instr) : ∃ op operands, encode .little i = op :: operands ∧
    ∃ b₁ b₂ b₃ h, instrOfShape b₁ b₂ b₃ h (shapeOf op) = i := by
  cases i
  -- Format A, and the slots decided by their opcode byte
  case halt | nop | ret | iret | brk | wfi | reset | syn | haltErr | reboot | dump | assert | id | ver | clk | pclk |
      wdog | sleep | reservedDF | reservedED | reservedEE | reservedEF | reservedFA | reservedFB | reservedFC |
      reservedFD | reservedFE | illegal => exact ⟨_, _, rfl, 0, 0, 0, 0, rfl⟩
  -- Formats B and C
  case inc | dec | not | neg | push | pop | confLd | confSt | sys | trap | dbg | clf | sema | yield | cache | stripcf =>
    rename_i b₁
    exact ⟨_, _, rfl, b₁, 0, 0, 0, rfl⟩
  -- Format D
  case movi | addi | subi | andi | ori | xori | shli | shri | cThresh | len =>
    rename_i b₁ b₂
    exact ⟨_, _, rfl, b₁, b₂, 0, 0, rfl⟩
  -- Format F
  case movi16 | addi16 | subi16 | jmp | jal | call | loop | select | jmpl | jall | calll | tail | switch | coyield |
      coresum | fault | handler | trace | profOn | profOff | watch =>
    rename_i b₁ h
    exact ⟨_, _, rfl, b₁, 0, 0, h, rfl⟩
  -- Format G
  case loadoff | storeoff | loadi | storei | enter | leave | copy | fill | slice | dmaCpy | dmaSet | mmioR | mmioW |
      atomic | cas | fence | malloc | free | mprot | mcache | gpuLd | gpuSt | gpuEx | gpuSync =>
    rename_i b₁ b₂ h
    exact ⟨_, _, rfl, b₁, b₂, 0, h, rfl⟩
  -- Format E
  all_goals
    rename_i b₁ b₂ b₃
    exact ⟨_, _, rfl, b₁, b₂, b₃, 0, rfl⟩

theorem encode_eq_bytesOfShape (o : ByteOrder) (i : Instr) : ∃ b₁ b₂ b₃ h,
    encode o i = bytesOfShape o (opcodeOf i) b₁ b₂ b₃ h (shapeOf (opcodeOf i)) ∧
      instrOfShape b₁ b₂ b₃ h (shapeOf (opcodeOf i)) = i := by
  obtain ⟨op, operands, hop, b₁, b₂, b₃, h, hi⟩ := exists_instrOfShape i
  obtain rfl : opcodeOf i = op := by rw [opcodeOf, hop, List.headD_cons]
  exact ⟨b₁, b₂, b₃, h, (congrArg (encode o) hi.symm).trans (encode_instrOfShape o _ b₁ b₂ b₃ h), hi⟩

/-! ### How many bytes a row takes (30_encoding.md R122) -/

/-- A row without a length takes its opcode byte. -/
theorem length_bytesOfShape (o : ByteOrder) (op b₁ b₂ b₃ : Byte) (h : Half) (shape : Shape) :
    (bytesOfShape o op b₁ b₂ b₃ h shape).length = shape.length.getD 1 := by
  have hhalf : (halfBytes o h).length = 2 := by cases o <;> rfl
  cases shape <;> simp [bytesOfShape, Shape.length, hhalf]

/-- A string of as many bytes as a row takes begins with bytes of that row. -/
theorem exists_bytesOfShape (o : ByteOrder) (op : Byte) {operands : List Byte} {shape : Shape}
    (hlen : shape.length.getD 1 ≤ operands.length + 1) :
    ∃ b₁ b₂ b₃ h, op :: operands = bytesOfShape o op b₁ b₂ b₃ h shape ++ operands.drop (shape.length.getD 1 - 1) := by
  cases shape with
  | stop | a => exact ⟨0, 0, 0, 0, rfl⟩
  | b | c =>
    match operands, hlen with
    | b₁ :: _, _ => exact ⟨b₁, 0, 0, 0, rfl⟩
  | d =>
    match operands, hlen with
    | b₁ :: b₂ :: _, _ => exact ⟨b₁, b₂, 0, 0, rfl⟩
  | e =>
    match operands, hlen with
    | b₁ :: b₂ :: b₃ :: _, _ => exact ⟨b₁, b₂, b₃, 0, rfl⟩
  | f =>
    match operands, hlen with
    | b₁ :: b₂ :: b₃ :: _, _ => exact ⟨b₁, 0, 0, halfOf o b₂ b₃, by simp [bytesOfShape, halfBytes_halfOf, Shape.length]⟩
  | g =>
    match operands, hlen with
    | b₁ :: b₂ :: b₃ :: b₄ :: _, _ =>
      exact ⟨b₁, b₂, 0, halfOf o b₃ b₄, by simp [bytesOfShape, halfBytes_halfOf, Shape.length]⟩

/-- A string that holds the bytes of its row decodes to an instruction of its opcode byte, and takes those bytes. -/
theorem decode_of_length_le (o : ByteOrder) {op : Byte} {operands : List Byte}
    (hlen : (opLength op).getD 1 ≤ operands.length + 1) :
    ∃ i, decode o (op :: operands) = .ok (i, operands.drop ((opLength op).getD 1 - 1)) ∧ opcodeOf i = op := by
  obtain ⟨b₁, b₂, b₃, h, hbytes⟩ := exists_bytesOfShape o op hlen
  exact ⟨_, (congrArg (decode o) hbytes).trans (decode_bytesOfShape o op b₁ b₂ b₃ h _),
    opcodeOf_instrOfShape b₁ b₂ b₃ h op⟩

/-- A string that does not is refused as truncated. -/
theorem decode_of_lt_length (o : ByteOrder) {op : Byte} {operands : List Byte}
    (hlen : operands.length + 1 < (opLength op).getD 1) : decode o (op :: operands) = .error (.truncated op) := by
  cases hdec : decode o (op :: operands) with
  | ok decoded =>
    obtain ⟨b₁, b₂, b₃, h, -, hbytes⟩ := bytesOfShape_of_decode hdec
    have hlength := congrArg List.length hbytes
    rw [List.length_append, length_bytesOfShape, List.length_cons, ← opLength] at hlength
    omega
  | error e =>
    simp only [decode] at hdec
    split at hdec <;> cases hdec
    rfl

/-! ### The statements -/

/-- Settles O1: an instruction is the one its row gives for its operands, and its encoding is the bytes of that row. -/
theorem decodeOfEncode : Obligations.DecodeOfEncode := by
  intro o i rest
  obtain ⟨b₁, b₂, b₃, h, hbytes, hi⟩ := encode_eq_bytesOfShape o i
  rw [hbytes, decode_bytesOfShape, hi]

/-- Settles O2: the bytes decoded are those of the row, which the encoder writes for the instruction it gives. -/
theorem encodeOfDecode : Obligations.EncodeOfDecode := by
  intro o bs i rest hdec
  cases bs with
  | nil => cases hdec
  | cons op operands =>
    obtain ⟨b₁, b₂, b₃, h, rfl, hbytes⟩ := bytesOfShape_of_decode hdec
    rw [hbytes, encode_instrOfShape]

/-- Settles O3: whether the string holds the bytes of the row decides whether it decodes. -/
theorem decodeByOpcodeByteAlone : Obligations.DecodeByOpcodeByteAlone := by
  intro o op operands
  have hdec := decode_of_length_le o (op := op) (operands := operands)
  refine ⟨fun hnone => ?_, fun len hsome => ⟨fun hle => ?_, fun hlt => ?_⟩⟩
  · rw [hnone] at hdec
    exact hdec (Nat.le_add_left 1 _)
  · rw [hsome] at hdec
    exact hdec hle
  · exact decode_of_lt_length o (by rwa [hsome])

/-- The length that the table of the spec gives an opcode byte (30_encoding.md R122). -/
def specLength (op : Byte) : Option Nat :=
  if op ∈ illegalOpcodes then none
  else if op ≤ 0x07 then some 1
  else if op ≤ 0x17 then some 2
  else if op ≤ 0x1F ∨ op = 0x69 ∨ op = 0xA0 then some 3
  else if (0x48 ≤ op ∧ op ≤ 0x4F) ∨ op = 0xA4 ∨ (0xD0 ≤ op ∧ op ≤ 0xDF) then some 5
  else if 0xF0 ≤ op then some 1
  else some 4

/-- Settles O4: the lengths of the opcode map's rows, read in the order of their opcode bytes. -/
theorem opcodeLengths : Obligations.OpcodeLengths := by
  intro op
  have hrow := eq_at_shapeOf (A := Shape.length)
    (B := fun shape => specLength (opcodeOf (instrOfShape 0 0 0 0 shape))) rfl op
  rwa [opcodeOf_instrOfShape] at hrow

/-- Settles O5: the decoder computes each. -/
theorem decodeOfSpecWords : Obligations.DecodeOfSpecWords := by
  and_intros <;> rfl

end Sys2Proof.Machine

end

/-! The fetch and the step around an instruction (spec/10_state.md section 3), and the state that initialisation leaves
(spec/70_reset_and_hazards.md section 1). -/

section

namespace Sys2Proof.Machine

/-! ### Fetching -/

theorem fetchInstr_of_decode {s : State} {i : Instr} {rest : List Byte}
    (hdec : decode s.params.imm16Order (s.codeFrom s.pc) = .ok (i, rest)) : fetchInstr s = .ok i := by
  rw [fetchInstr, hdec]

theorem fetchInstr_of_undecodable {s : State} {e : DecodeError}
    (hdec : decode s.params.imm16Order (s.codeFrom s.pc) = .error e) : fetchInstr s = .error (.fetchFault s.pc) := by
  rw [fetchInstr, hdec]

theorem step_of_fetch_error {s : State} {f : Fault} (hruns : Runs s) (hfetch : fetchInstr s = .error f) :
    step s = .fault f := by
  simp [step, ended_eq_false_iff.mpr hruns, hfetch, raise]

/-- Outside the bytecode there is no opcode byte to fetch (10_state.md R43). -/
theorem fetchInstr_of_outside {s : State} (h : s.pc < 0 ∨ s.code.length ≤ s.pc) :
    fetchInstr s = .error (.fetchFault s.pc) := by
  refine fetchInstr_of_undecodable (e := .noOpcode) ?_
  rw [State.codeFrom_of_outside h, decode]

/-- An opcode byte whose operand bytes end past the bytecode gives no instruction (10_state.md R43). -/
theorem fetchInstr_of_truncated {s : State} {op : Byte} {len : Nat} (hnonneg : 0 ≤ s.pc)
    (hop : s.code[s.pc.toNat]? = some op) (hlen : opLength op = some len) (hend : s.code.length < s.pc + len) :
    fetchInstr s = .error (.fetchFault s.pc) := by
  refine fetchInstr_of_undecodable (e := .truncated op) ?_
  have hinside : s.pc.toNat < s.code.length := (List.getElem?_eq_some_iff.mp hop).1
  rw [State.codeFrom_of_byte hnonneg hop]
  apply decode_of_lt_length
  rw [hlen, Option.getD_some, List.length_drop]
  omega

/-- The bytes after those an instruction takes do not change what is decoded. -/
theorem decode_append {o : ByteOrder} {bs rest : List Byte} {i : Instr} (hdec : decode o bs = .ok (i, rest))
    (more : List Byte) : decode o (bs ++ more) = .ok (i, rest ++ more) := by
  rw [encodeOfDecode o bs i rest hdec, List.append_assoc]
  exact decodeOfEncode o i (rest ++ more)

/-! ### Placing an instruction where the next step fetches (log 2) -/

/-- From `start` on the overlaid bytes hold the new ones. -/
theorem drop_overlay (old : List Byte) (start : Nat) (new : List Byte) :
    (overlay old start new).drop start = new ++ old.drop (start + new.length) := by
  have hbefore : (old.take start ++ List.replicate (start - old.length) 0).length = start := by
    rw [List.length_append, List.length_take, List.length_replicate]
    omega
  rw [overlay, List.append_assoc, List.drop_left' hbefore]

theorem withFetchWord_codeFrom (s : State) (nbits w : Nat) :
    (s.withFetchWord nbits w).codeFrom (s.withFetchWord nbits w).pc =
      tableBytes nbits w ++ s.code.drop (s.pc.toNat + (tableBytes nbits w).length) := by
  have hpc : (s.withFetchWord nbits w).pc = s.pc.toNat := by
    rw [State.withFetchWord]
    dsimp only
    omega
  rw [hpc, State.codeFrom, if_neg (by omega), Int.toNat_natCast]
  exact drop_overlay s.code s.pc.toNat (tableBytes nbits w)

theorem withFetchWord_runs (s : State) (nbits w : Nat) : Runs (s.withFetchWord nbits w) :=
  ⟨rfl, Nat.lt_of_lt_of_le (Nat.lt_succ_self s.cycles) (Nat.le_max_right _ _)⟩

theorem decodeTableWord_some {nbits w : Nat} {i : Instr} (h : decodeTableWord nbits w = some i) :
    ∃ rest, decode .little (tableBytes nbits w) = .ok (i, rest) := by
  unfold decodeTableWord at h
  split at h
  next rest hdec =>
    cases h
    exact ⟨rest, hdec⟩
  next => cases h

/-! ### The initial state -/

/-- Only the cell of SP is not 0 initially (70_reset_and_hazards.md R651). -/
theorem initial_getX (code : List Byte) (initMem initHeap : Memory) (params : Params) (cells : Vector Conf 64)
    (acc : Conf) (r : Byte) :
    (State.initial code initMem initHeap params cells acc).getX r = if r = 11 then 65536 else 0 := by
  rw [State.getX, readX, State.initial]
  by_cases hr : r = 11
  · subst hr
    rfl
  · have hne : 11 ≠ r.toNat := fun h => hr (BitVec.eq_of_toNat_eq h.symm)
    rw [if_neg hr]
    split
    · split
      · rfl
      · rw [Vector.getElem_set_ne _ _ hne, Vector.getElem_replicate]
    · rfl

/-! ### The statements -/

/-- Settles O6: what decodes at pc is what is fetched. -/
theorem stepRunsDecodedInstruction : Obligations.StepRunsDecodedInstruction := by
  intro s i rest hruns hdec
  exact step_of_fetch hruns (fetchInstr_of_decode hdec)

/-- Settles O7: the placed state runs, and its bytes at pc begin with those of the word. -/
theorem stepRunsPlacedWord : Obligations.StepRunsPlacedWord := by
  intro s nbits w i horder hword
  obtain ⟨rest, hdec⟩ := decodeTableWord_some hword
  have horder : (s.withFetchWord nbits w).params.imm16Order = .little := horder
  have hplaced := decode_append hdec (s.code.drop (s.pc.toNat + (tableBytes nbits w).length))
  rw [← withFetchWord_codeFrom, ← horder] at hplaced
  exact step_of_fetch (withFetchWord_runs s nbits w) (fetchInstr_of_decode hplaced)

/-- Settles O8: no opcode byte, or one whose instruction does not fit, is not fetched. -/
theorem fetchOutsideBytecodeFaults : Obligations.FetchOutsideBytecodeFaults := by
  intro s hruns h
  refine step_of_fetch_error hruns ?_
  by_cases hneg : s.pc < 0
  · exact fetchInstr_of_outside (.inl hneg)
  · obtain hneg' | hpast | ⟨op, len, hop, hlen, hend⟩ := h
    · exact absurd hneg' hneg
    · exact fetchInstr_of_outside (.inr hpast)
    · exact fetchInstr_of_truncated (not_lt.mp hneg) hop hlen hend

/-- Settles O13: the two memories are empty, and every other field is a literal. -/
theorem invariantHoldsAtReset : Obligations.InvariantHoldsAtReset where
  mem := rfl
  heap := rfl
  cycles := Nat.zero_le _
  zero := rfl
  regions := rfl

/-- Settles O14: the registers are read off the initial vector, the empty bytecode is a fetch outside it, and the other
fields are those the definition writes. -/
theorem initialStateValues : Obligations.InitialStateValues := by
  intro code initMem initHeap params cells acc s
  have hregs (r : Byte) : s.getX r = if r = 11 then 65536 else 0 :=
    initial_getX code initMem initHeap params cells acc r
  have hvectors (k : Nat) (hk : k < 16) : s.v[k] = 0 := Vector.getElem_replicate hk
  have hempty (hcode : code = []) (hbudget : 0 < params.maxCycles) : step s = .fault (.fetchFault 0) := by
    subst hcode
    exact fetchOutsideBytecodeFaults s ⟨rfl, hbudget⟩ (.inr (.inl le_rfl))
  exact ⟨fun r hr => (hregs r).trans (if_neg hr), hregs 11, hvectors, rfl, rfl, rfl, rfl, rfl, rfl, rfl, rfl, rfl, rfl,
    rfl, rfl, rfl, hempty⟩

end Sys2Proof.Machine

end

/-! What an instruction can do, said once: which state it may write (spec/10_state.md, 20_memory.md section 2,
48_confidence_a2a.md section 1) and which fault it may raise (60_exceptions.md R612), by its opcode byte. -/

section

namespace Sys2Proof.Machine

/-! ### The opcode bytes of the instructions that write, keep or raise -/

/-- The instructions that leave the flags unchanged (10_state.md R50). -/
def flagKeepers : List Byte :=
  [0x00, 0x01, 0x02, 0x06, 0x07, 0x0C, 0x0D, 0x0E, 0x0F, 0x12, 0x15, 0x16, 0x18, 0x38, 0x39, 0x3A, 0x3B,
    0x3C, 0x3D, 0x3E, 0x3F, 0x40, 0x43, 0x44, 0x45, 0x47, 0x48, 0x49, 0x4A, 0x4B, 0x4E, 0x4F, 0x69, 0x9A, 0x9B, 0xD4,
    0xE0, 0xE1, 0xE2]

/-- CONF_ST, C_ADD to C_FDIV and RESET (48_confidence_a2a.md R528 (a)). -/
def confWriters : List Byte := [0x0F, 0x60, 0x61, 0x62, 0x63, 0x64, 0x65, 0x66, 0x67, 0x06]

/-- CONF_LD and RESET (10_state.md R61). -/
def caccWriters : List Byte := [0x0E, 0x06]

/-- PUSH, STORE, CALL, CALLL, STOREOFF, STOREI, COPY, FILL and ATOMIC (20_memory.md R88). -/
def memWriters : List Byte := [0x0C, 0x39, 0x45, 0xE2, 0x49, 0x4B, 0x4E, 0x4F, 0xD4]

/-- The fifteen instructions that access data memory (60_exceptions.md R606, R612). -/
def memoryFaulters : List Byte :=
  [0x38, 0x39, 0x0C, 0x0D, 0x02, 0x45, 0xE2, 0x48, 0x49, 0x4A, 0x4B, 0x4E, 0x4F, 0xD4, 0x98]

/-- DIV, MOD, FDIV, C_DIV and C_FDIV (60_exceptions.md R608). -/
def divisions : List Byte := [0x23, 0x24, 0x33, 0x63, 0x67]

/-- LOG2 and FSQRT (60_exceptions.md R609). -/
def domainCheckers : List Byte := [0x94, 0x9D]

/-- The fault table read by fault: whether an instruction of opcode byte `op` may raise it (60_exceptions.md R612; the
stuck end is WFI's, R603). -/
def Fault.RaisedBy (op : Byte) : Fault → Prop
  | .illegalOpcode raised => raised = op ∧ raised ∈ illegalOpcodes
  | .memoryFault _ => op ∈ memoryFaulters
  | .fetchFault _ => op = 0x69
  | .divideByZero _ => op ∈ divisions
  | .domainError _ => op ∈ domainCheckers
  | .breakpoint _ => op = 0x04
  | .stuck _ => op = 0x05

theorem raisedBy_memoryFault {op : Byte} (hop : op ∈ memoryFaulters) (a : Int) : Fault.RaisedBy op (.memoryFault a) :=
  hop

theorem raisedBy_divideByZero {op : Byte} (hop : op ∈ divisions) (a : Int) : Fault.RaisedBy op (.divideByZero a) :=
  hop

theorem raisedBy_domainError {op : Byte} (hop : op ∈ domainCheckers) (a : Int) : Fault.RaisedBy op (.domainError a) :=
  hop

/-! ### What an instruction of an opcode byte keeps -/

/-- Of the two instructions that may set `halted`: HALT always does, RET on the empty stack (10_state.md R44). -/
def HaltsBy (op : Byte) (s : State) : Prop := op = 0x00 ∨ (op = 0x02 ∧ u32 s.sp = 65536)

/-- What an instruction of opcode byte `op` that takes `s` to `t` keeps of the state. -/
structure Keeps (op : Byte) (s t : State) : Prop where
  environment : SameEnvironment s t
  cycles : t.cycles = s.cycles
  zeroCell : s.x[0] = 0 → t.x[0] = 0
  memWf : s.mem.wf = true → t.mem.wf = true
  halted : t.halted = s.halted ∨ (t.halted = true ∧ HaltsBy op s)
  flags : op ∈ flagKeepers → t.flags = s.flags
  conf : op ∉ confWriters → t.conf = s.conf
  cacc : op ∉ caccWriters → t.cacc = s.cacc
  seed : op ≠ 0x9B → t.seed = s.seed
  events : op ≠ 0x12 → t.debugOut = s.debugOut
  vectors : op ≠ 0x06 → t.v = s.v
  mem : op ∉ memWriters → t.mem = s.mem

namespace Keeps

variable {op : Byte} {s t : State}

theorem refl (op : Byte) (s : State) : Keeps op s s where
  environment := ⟨rfl, rfl, rfl, rfl⟩
  cycles := rfl
  zeroCell := id
  memWf := id
  halted := .inl rfl
  flags _ := rfl
  conf _ := rfl
  cacc _ := rfl
  seed _ := rfl
  events _ := rfl
  vectors _ := rfl
  mem _ := rfl

variable (h : Keeps op s t)
include h

theorem setX (r : Byte) (w : Word) : Keeps op s (t.setX r w) :=
  { h with zeroCell := fun hzero => (State.setX_zero_cell t r w).trans (h.zeroCell hzero) }

theorem setPc (p : Int) : Keeps op s (t.setPc p) := { h with }

theorem drew : Keeps op s t.drew := { h with }

theorem advance (n : Nat) : Keeps op s (t.advance n) := h.setPc _

theorem halt (hop : HaltsBy op s) : Keeps op s t.halt := { h with halted := .inr ⟨rfl, hop⟩ }

/-- A change of the flags alone, whether they are computed or drawn. -/
theorem setFlags (hop : op ∉ flagKeepers) (f : Flags) (n : Nat) : Keeps op s { t with flags := f, draws := n } :=
  { h with flags := fun hkeeper => absurd hkeeper hop }

theorem setC (hop : op ∈ confWriters) (r : Byte) (k : Conf) : Keeps op s (t.setC r k) :=
  { h with conf := fun hother => absurd hop hother }

theorem setCacc (hop : op ∈ caccWriters) (k : Conf) : Keeps op s (t.setCacc k) :=
  { h with cacc := fun hother => absurd hop hother }

theorem setSeed (hop : op = 0x9B) (v : Word) : Keeps op s (t.setSeed v) :=
  { h with seed := fun hother => absurd hop hother }

theorem emit (hop : op = 0x12) (r : Byte) (v : Word) : Keeps op s (t.emit r v) :=
  { h with events := fun hother => absurd hop hother }

theorem setMem (hop : op ∈ memWriters) {m : Memory} (hwf : t.mem.wf = true → m.wf = true) : Keeps op s (t.setMem m) :=
  { h with
    memWf := fun hmem => hwf (h.memWf hmem)
    mem := fun hother => absurd hop hother }

/-- RESET clears both register files and draws the confidence (40_system_control.md R176). -/
theorem reset (hop : op = 0x06) : Keeps op s t.clearRegs.confAny :=
  { h with
    zeroCell := fun _ => rfl
    conf := fun hother => absurd (by rw [hop]; decide) hother
    cacc := fun hother => absurd (by rw [hop]; decide) hother
    vectors := fun hother => absurd hop hother }

end Keeps

/-! ### What a result answers: a state it may be, or a fault it may raise -/

/-- A next state has `N`, a fault `F`; of a refusal nothing is said. -/
structure Answers (N : State → Prop) (F : Fault → Prop) (r : Result) : Prop where
  next : ∀ t, r = .next t → N t
  fault : FaultsIn F r

section

variable {N : State → Prop} {F : Fault → Prop} {s : State}

theorem answers_next {t : State} (h : N t) : Answers N F (.next t) := ⟨by rintro _ ⟨⟩; exact h, faultsIn_next t⟩

theorem answers_fault {f : Fault} (h : F f) : Answers N F (.fault f) :=
  ⟨fun _ hnext => (nomatch hnext), faultsIn_fault h⟩

theorem answers_refused (q : Refusal) : Answers N F (.refused q) :=
  ⟨fun _ hnext => (nomatch hnext), faultsIn_refused q⟩

theorem answers_ite {c : Prop} [Decidable c] {a b : Result} (ha : c → Answers N F a) (hb : ¬ c → Answers N F b) :
    Answers N F (if c then a else b) := by
  split
  next hc => exact ha hc
  next hc => exact hb hc

/-! #### Validation, and the checks that raise -/

theorem answers_withRegs {rs : List Byte} {k : Result} (hk : Answers N F k) : Answers N F (withRegs s rs k) :=
  ⟨fun t h => hk.next t (withRegs_next h).2, faultsIn_withRegs hk.fault⟩

theorem answers_withCell {r : Byte} {k : Result} (hk : Answers N F k) : Answers N F (withCell s r k) :=
  ⟨fun t h => hk.next t (withCell_next h).2, faultsIn_withCell hk.fault⟩

theorem answers_withAgreedImm16 {i : Half} {k : Nat → Result} (hk : ∀ n, Answers N F (k n)) :
    Answers N F (withAgreedImm16 i k) :=
  ⟨fun t h => (hk _).next t (withAgreedImm16_next h).2, faultsIn_withAgreedImm16 fun n => (hk n).fault⟩

theorem answers_withShiftCount {i : Byte} {k : Nat → Result} (hk : ∀ n, Answers N F (k n)) :
    Answers N F (withShiftCount i k) :=
  ⟨fun t h => (hk _).next t (withShiftCount_next h).2, faultsIn_withShiftCount fun n => (hk n).fault⟩

theorem answers_withDivisor {r : Byte} {k : Result} (hF : ∀ p, F (.divideByZero p)) (hk : Answers N F k) :
    Answers N F (withDivisor s r k) :=
  ⟨fun t h => hk.next t (withDivisor_next h).2, faultsIn_withDivisor (hF _) hk.fault⟩

theorem answers_withFloatDivisor {r : Byte} {k : Result} (hF : ∀ p, F (.divideByZero p)) (hk : Answers N F k) :
    Answers N F (withFloatDivisor s r k) :=
  ⟨fun t h => hk.next t (withFloatDivisor_next h).2, faultsIn_withFloatDivisor (hF _) hk.fault⟩

/-! #### Accesses to data memory -/

variable (hF : ∀ a, F (.memoryFault a))
include hF

theorem answers_withLoad {a : Int} {k : Word → Result} (hk : ∀ v, Answers N F (k v)) : Answers N F (withLoad s a k) :=
  ⟨fun t h => (hk _).next t (withLoad_next h).2.2, faultsIn_withLoad hF fun v => (hk v).fault⟩

theorem answers_withPop {k : Word → State → Result} (hk : ∀ v w, Answers N F (k v (s.setX spReg w))) :
    Answers N F (withPop s k) :=
  answers_withLoad hF fun v => hk v _

/-- A checked store goes on with a memory that is canonical if it was before. -/
theorem answers_withStore {a : Int} {v : Word} {k : State → Result}
    (hk : ∀ m : Memory, (s.mem.wf = true → m.wf = true) → Answers N F (k (s.setMem m))) :
    Answers N F (withStore s a v k) := by
  unfold withStore
  split
  next m hm => exact hk m fun hwf => store32_wf hwf hm
  next => exact answers_fault (hF a)

theorem answers_withPush {v : Word} {k : State → Result}
    (hk : ∀ m : Memory, (s.mem.wf = true → m.wf = true) → ∀ w, Answers N F (k ((s.setMem m).setX spReg w))) :
    Answers N F (withPush s v k) :=
  answers_withStore hF fun m hwf => hk m hwf _

end

/-! #### The ends of an instruction that keeps what its opcode byte says -/

section

variable {op : Byte} {F : Fault → Prop} {s t : State}

theorem answers_copyBytes (hop : op ∈ memWriters) (hF : ∀ a, F (.memoryFault a)) {d a : Int} {n : Nat} :
    Answers (Keeps op s) F (copyBytes s d a n) where
  next t h := by
    obtain ⟨-, rfl⟩ | ⟨-, hd, hend, -, -, -, rfl⟩ := copyBytes_next h
    · exact (Keeps.refl op s).advance 5
    · exact ((Keeps.refl op s).setMem hop fun hwf => Memory.copyUp_wf n hwf (by omega) _).advance 5
  fault := faultsIn_copyBytes hF

theorem answers_fillBytes (hop : op ∈ memWriters) (hF : ∀ a, F (.memoryFault a)) {d : Int} {v : Word} {n : Nat} :
    Answers (Keeps op s) F (fillBytes s d v n) where
  next t h := by
    obtain ⟨-, ⟨-, rfl⟩ | ⟨-, hd, hend, rfl⟩⟩ := fillBytes_next h
    · exact (Keeps.refl op s).advance 5
    · exact ((Keeps.refl op s).setMem hop fun hwf => Memory.fill_wf n hwf (by omega) _).advance 5
  fault := faultsIn_fillBytes hF

theorem answers_skipNext {n : Nat} (hF : ∀ a, F (.fetchFault a)) : Answers (Keeps op s) F (skipNext s n) where
  next t h := by
    obtain ⟨_, _, _, -, -, rfl⟩ := skipNext_next h
    exact (Keeps.refl op s).setPc _
  fault := faultsIn_skipNext (hF _)

variable (h : Keeps op s t)
include h

theorem answers_finish {n : Nat} : Answers (Keeps op s) F (finish t n) := answers_next (h.advance n)

theorem answers_finishX {rd : Byte} {r : Word} {n : Nat} : Answers (Keeps op s) F (finishX t rd r n) :=
  answers_finish (h.setX rd r)

theorem answers_finishBranch {n : Nat} {taken : Bool} {r : Byte} : Answers (Keeps op s) F (finishBranch t n taken r) :=
  answers_ite (fun _ => answers_next (h.setPc _)) fun _ => answers_finish h

variable (hop : op ∉ flagKeepers) {rd : Byte} {r : Word} {n : Nat}
include hop

theorem answers_finishZS : Answers (Keeps op s) F (finishZS t rd r n) :=
  answers_finish ((h.setX rd r).setFlags hop _ _)

theorem answers_finishAny : Answers (Keeps op s) F (finishAny t rd r n) :=
  answers_finish ((h.setX rd r).setFlags hop _ _)

theorem answers_finishZ : Answers (Keeps op s) F (finishZ t rd r n) :=
  answers_finish ((h.setX rd r).setFlags hop _ _)

theorem answers_finishZAndS : Answers (Keeps op s) F (finishZAndS t rd r n) :=
  answers_finish ((h.setX rd r).setFlags hop _ _)

theorem answers_finishZFloat : Answers (Keeps op s) F (finishZFloat t rd r n) :=
  answers_finish ((h.setX rd r).setFlags hop _ _)

end

/-! ### Every instruction -/

/-- What `exec` answers keeps the state that the opcode byte says, or is a fault that it may raise. -/
theorem exec_answers_encoded (i : Instr) (s : State) : ∃ op operands, encode .little i = op :: operands ∧
    Answers (Keeps op s) (Fault.RaisedBy op) (exec i s) := by
  cases i <;> refine ⟨_, _, rfl, ?_⟩
  -- System control
  case halt => exact answers_finish ((Keeps.refl _ s).halt (.inl rfl))
  case ret =>
    exact answers_ite (fun hempty => answers_finish ((Keeps.refl _ s).halt (.inr ⟨rfl, hempty⟩))) fun _ =>
      answers_withPop (raisedBy_memoryFault (by decide)) fun _ w => answers_next (((Keeps.refl _ s).setX _ w).setPc _)
  case reset => exact answers_finish ((Keeps.refl _ s).reset rfl)
  case nop | syn | yield => exact answers_finish (.refl _ s)
  case brk | wfi => exact answers_fault rfl
  case reservedDF | reservedED | reservedEE | reservedEF | reservedFA | reservedFB | reservedFC | reservedFD |
      reservedFE | illegal => exact answers_fault ⟨rfl, by decide⟩
  case dbg => exact answers_ite (fun _ => answers_refused _) fun _ => answers_finish ((Keeps.refl _ s).emit rfl _ _)
  case clf => exact answers_finish ((Keeps.refl _ s).setFlags (by decide) _ _)
  case cache => exact answers_ite (fun _ => answers_refused _) fun _ => answers_finish (.refl _ s)
  -- One register is written, and Z and S
  case inc | dec | not | neg | add | sub | mul | and | or | xor | shl | shr | min | max =>
    exact answers_withRegs (answers_finishZS (.refl _ s) (by decide))
  -- One register is written, and all flags
  case addi | subi | andi | ori | xori | addi16 | subi16 | cmpEq | cmpLt | cmpGt | cmpNe | fadd | fsub | fmul | fmin |
      fmax | itof => exact answers_withRegs (answers_finishAny (.refl _ s) (by decide))
  case shli | shri =>
    exact answers_withRegs (answers_withShiftCount fun _ => answers_finishAny (.refl _ s) (by decide))
  case div | mod =>
    exact answers_withRegs
      (answers_withDivisor (raisedBy_divideByZero (by decide)) (answers_finishAny (.refl _ s) (by decide)))
  case fdiv =>
    exact answers_withRegs
      (answers_withFloatDivisor (raisedBy_divideByZero (by decide)) (answers_finishAny (.refl _ s) (by decide)))
  case ftoi =>
    refine answers_withRegs ?_
    split
    · exact answers_refused _
    · exact answers_finishAny (.refl _ s) (by decide)
  -- One register is written, and no flag
  case movi | movi16 | mov => exact answers_withRegs (answers_finishX (.refl _ s))
  case swp => exact answers_withRegs (answers_finish (((Keeps.refl _ s).setX _ _).setX _ _))
  case rnd =>
    exact answers_withRegs
      (answers_ite (fun _ => answers_refused _) fun _ => answers_finish ((Keeps.refl _ s).setX _ _).drew)
  case seed => exact answers_withRegs (answers_finishX ((Keeps.refl _ s).setSeed rfl _))
  -- One register is written, and some flags
  case abs => exact answers_withRegs (answers_finishZAndS (.refl _ s) (by decide))
  case sign | clz | popcnt => exact answers_withRegs (answers_finishZ (.refl _ s) (by decide))
  case fmod | fsin | fcos => exact answers_withRegs (answers_finishZFloat (.refl _ s) (by decide))
  case fsqrt =>
    exact answers_withRegs (answers_ite (fun _ => answers_fault (raisedBy_domainError (by decide) _)) fun _ =>
      answers_finishZFloat (.refl _ s) (by decide))
  case sqrt =>
    exact answers_withRegs
      (answers_ite (fun _ => answers_refused _) fun _ => answers_finishZ (.refl _ s) (by decide))
  case pow =>
    refine answers_withRegs (answers_ite (fun _ => answers_refused _) fun _ => ?_)
    split
    · exact answers_refused _
    · exact answers_finishZAndS (.refl _ s) (by decide)
  case log2 =>
    exact answers_withRegs (answers_ite (fun _ => answers_fault (raisedBy_domainError (by decide) _)) fun _ =>
      answers_finishZ (.refl _ s) (by decide))
  case ctz =>
    exact answers_withRegs
      (answers_ite (fun _ => answers_finish (((Keeps.refl _ s).setX _ _).setFlags (by decide) _ _)) fun _ =>
        answers_finishZ (.refl _ s) (by decide))
  case crc32 =>
    exact answers_withRegs (answers_ite (fun _ => answers_fault (raisedBy_memoryFault (by decide) _)) fun _ =>
      answers_finishZ (.refl _ s) (by decide))
  -- Data memory
  case push =>
    exact answers_withRegs (answers_withPush (raisedBy_memoryFault (by decide)) fun _ hwf _ =>
      answers_finish (((Keeps.refl _ s).setMem (by decide) hwf).setX _ _))
  case pop =>
    exact answers_withRegs (answers_ite (fun _ => answers_refused _) fun _ =>
      answers_withPop (raisedBy_memoryFault (by decide)) fun _ _ => answers_finishX ((Keeps.refl _ s).setX _ _))
  case load | loadoff =>
    exact answers_withRegs (answers_withLoad (raisedBy_memoryFault (by decide)) fun _ => answers_finishX (.refl _ s))
  case store | storeoff =>
    exact answers_withRegs (answers_withStore (raisedBy_memoryFault (by decide)) fun _ hwf =>
      answers_finish ((Keeps.refl _ s).setMem (by decide) hwf))
  case loadi =>
    exact answers_withRegs (answers_withAgreedImm16 fun _ =>
      answers_withLoad (raisedBy_memoryFault (by decide)) fun _ =>
        answers_withLoad (raisedBy_memoryFault (by decide)) fun _ => answers_finishX (.refl _ s))
  case storei =>
    exact answers_withRegs (answers_withAgreedImm16 fun _ =>
      answers_withLoad (raisedBy_memoryFault (by decide)) fun _ =>
        answers_withStore (raisedBy_memoryFault (by decide)) fun _ hwf =>
          answers_finish ((Keeps.refl _ s).setMem (by decide) hwf))
  case atomic =>
    exact answers_withRegs (answers_withAgreedImm16 fun _ =>
      answers_withLoad (raisedBy_memoryFault (by decide)) fun _ =>
        answers_withStore (raisedBy_memoryFault (by decide)) fun _ hwf =>
          answers_finishX ((Keeps.refl _ s).setMem (by decide) hwf))
  case copy => exact answers_withRegs (answers_copyBytes (by decide) (raisedBy_memoryFault (by decide)))
  case fill => exact answers_withRegs (answers_fillBytes (by decide) (raisedBy_memoryFault (by decide)))
  -- Transfers of control
  case jz | jnz | jlt | jgt => exact answers_withRegs (answers_finishBranch (.refl _ s))
  case jmp | jmpl => exact answers_next ((Keeps.refl _ s).setPc _)
  case jal | jall => exact answers_withRegs (answers_next (((Keeps.refl _ s).setX _ _).setPc _))
  case call | calll =>
    exact answers_withRegs (answers_withPush (raisedBy_memoryFault (by decide)) fun _ hwf _ =>
      answers_next ((((Keeps.refl _ s).setMem (by decide) hwf).setX _ _).setPc _))
  case loop =>
    exact answers_withRegs (answers_withAgreedImm16 fun _ =>
      answers_ite (fun _ => answers_next ((((Keeps.refl _ s).setX _ _).setFlags (by decide) _ _).setPc _)) fun _ =>
        answers_finishAny (.refl _ s) (by decide))
  case select => exact answers_withRegs (answers_withAgreedImm16 fun _ => answers_next ((Keeps.refl _ s).setPc _))
  -- Confidence
  case confLd => exact answers_withCell (answers_finish ((Keeps.refl _ s).setCacc (by decide) _))
  case confSt => exact answers_withCell (answers_finish ((Keeps.refl _ s).setC (by decide) _ _))
  case cThresh =>
    exact answers_withCell (answers_ite (fun _ => answers_skipNext fun _ => rfl) fun _ => answers_finish (.refl _ s))
  case cAdd | cSub | cMul =>
    exact answers_withRegs (answers_finishZS ((Keeps.refl _ s).setC (by decide) _ _) (by decide))
  case cFadd | cFsub | cFmul =>
    exact answers_withRegs (answers_finishAny ((Keeps.refl _ s).setC (by decide) _ _) (by decide))
  case cDiv =>
    exact answers_withRegs (answers_withDivisor (raisedBy_divideByZero (by decide))
      (answers_finishAny ((Keeps.refl _ s).setC (by decide) _ _) (by decide)))
  case cFdiv =>
    exact answers_withRegs (answers_withFloatDivisor (raisedBy_divideByZero (by decide))
      (answers_finishAny ((Keeps.refl _ s).setC (by decide) _ _) (by decide)))
  -- The others have no meaning of their own and are refused
  all_goals exact answers_refused _

theorem exec_answers (i : Instr) (s : State) :
    Answers (Keeps (opcodeOf i) s) (Fault.RaisedBy (opcodeOf i)) (exec i s) := by
  obtain ⟨op, operands, hencode, h⟩ := exec_answers_encoded i s
  obtain rfl : opcodeOf i = op := by rw [opcodeOf, hencode, List.headD_cons]
  exact h

theorem exec_keeps {i : Instr} {s t : State} (h : exec i s = .next t) : Keeps (opcodeOf i) s t :=
  (exec_answers i s).next t h

/-- Where a step answers a next state, the loop ran an instruction and counted it, or the run had ended (10_state.md
R41). -/
theorem step_next {s t : State} (h : step s = .next t) :
    (Runs s ∧ ∃ i u, exec i s = .next u ∧ t = u.tick) ∨ (¬ Runs s ∧ t = s) := by
  unfold step at h
  split at h
  next hended =>
    cases h
    exact .inr ⟨fun hruns => by simp [ended_eq_false_iff.mpr hruns] at hended, rfl⟩
  next hended =>
    refine .inl ⟨ended_eq_false_iff.mp (Bool.eq_false_iff.mpr hended), ?_⟩
    split at h
    next => cases h
    next i hfetch =>
      split at h <;> cases h
      next u hexec => exact ⟨i, u, hexec, rfl⟩

/-- An instruction is one that the row of its opcode byte gives (30_encoding.md R154). -/
theorem eq_of_opcodeOf {i : Instr} {op : Byte} (hop : opcodeOf i = op) :
    ∃ b₁ b₂ b₃ h, instrOfShape b₁ b₂ b₃ h (shapeOf op) = i := by
  obtain ⟨b₁, b₂, b₃, h, -, hi⟩ := encode_eq_bytesOfShape .little i
  exact ⟨b₁, b₂, b₃, h, hop ▸ hi⟩

/-! ### The statements -/

/-- Settles O10: what the loop runs leaves the count to the tick. -/
theorem stepCountsOneCycle : Obligations.StepCountsOneCycle := by
  intro s t h
  obtain ⟨hruns, i, u, hexec, rfl⟩ | ⟨hstops, rfl⟩ := step_next h
  · exact ⟨fun _ => congrArg (· + 1) (exec_keeps hexec).cycles, fun hstops => absurd hruns hstops⟩
  · exact ⟨fun hruns => absurd hruns hstops, fun _ => rfl⟩

/-- Settles O12: each part of the invariant is kept by the instruction, and the budget by the check before it. -/
theorem invariantKeptByEveryStep : Obligations.InvariantKeptByEveryStep := by
  intro s t hinv h
  obtain ⟨⟨-, hbudget⟩, i, u, hexec, rfl⟩ | ⟨-, rfl⟩ := step_next h
  · have hkeeps := exec_keeps hexec
    obtain ⟨hheap, hregions, -, hparams⟩ := hkeeps.environment
    exact {
      mem := hkeeps.memWf hinv.mem
      heap := by rw [State.tick_heap, hheap, hinv.heap]
      cycles := by rw [State.tick_cycles, State.tick_params, hkeeps.cycles, hparams]; exact hbudget
      zero := hkeeps.zeroCell hinv.zero
      regions := by rw [State.tick_regions, hregions, hinv.regions] }
  · exact hinv

/-- Settles O15: no instruction writes the environment, and neither does the tick. -/
theorem noInstructionWritesCodeOrRegions : Obligations.NoInstructionWritesCodeOrRegions := by
  intro s t h
  obtain ⟨-, i, u, hexec, rfl⟩ | ⟨-, rfl⟩ := step_next h
  · exact (exec_keeps hexec).environment
  · exact ⟨rfl, rfl, rfl, rfl⟩

/-- Settles O16: `halted` is kept, or set by one of the two opcode bytes. -/
theorem onlyHaltAndRetHalt : Obligations.OnlyHaltAndRetHalt := by
  intro i s t hexec
  obtain hsame | ⟨hset, hby⟩ := (exec_keeps hexec).halted
  · exact ⟨fun hs => hsame.trans hs, fun hs ht => absurd (hsame.symm.trans ht) (by rw [hs]; decide)⟩
  · refine ⟨fun _ => hset, fun _ _ => ?_⟩
    obtain hop | ⟨hop, hempty⟩ := hby
    · obtain ⟨_, _, _, _, rfl⟩ := eq_of_opcodeOf hop
      exact .inl rfl
    · obtain ⟨_, _, _, _, rfl⟩ := eq_of_opcodeOf hop
      exact .inr ⟨rfl, hempty⟩

/-- Settles O17: each kind of state is kept by the opcode bytes that are none of its writers'. -/
theorem onlyTheirInstructionsWrite : Obligations.OnlyTheirInstructionsWrite := by
  refine ⟨fun i s t hexec => ?_, fun i s t hexec => ?_, fun i s t hexec => (exec_keeps hexec).mem⟩
  · exact ⟨(exec_keeps hexec).conf, (exec_keeps hexec).cacc⟩
  · exact ⟨(exec_keeps hexec).seed, (exec_keeps hexec).events, (exec_keeps hexec).vectors⟩

/-- Settles O18: the 39 opcode bytes are those that keep the flags. -/
theorem flagsUnchangedByDataMovesAndTransfers : Obligations.FlagsUnchangedByDataMovesAndTransfers := by
  intro i s t hexec
  exact (exec_keeps hexec).flags

/-- Settles O19: a fault is one that the opcode byte may raise. -/
theorem faultsOnlyFromTheirInstructions : Obligations.FaultsOnlyFromTheirInstructions := by
  intro i s f hexec
  have hraised := (exec_answers i s).fault f hexec
  cases f <;> exact hraised

end Sys2Proof.Machine

end

/-! Instructions that stop whatever the state (spec/60_exceptions.md sections 3 and 4): the ill-formed ones, by their
defect; those whose rule is a refusal; and those that always complete without a result (40_system_control.md section 1). -/

section

namespace Sys2Proof.Machine

/-! ### A defect stops the instruction by its own reason (60_exceptions.md R613 (6)) -/

/-- How an instruction of opcode byte `op` with this defect stops. -/
def stopOf (op : Byte) : Defect → Result
  | .noInstruction => .fault (.illegalOpcode op)
  | .registerOutOfRange => .refused .registerOutOfRange
  | .vectorRegisterAs32Bit => .refused .vectorRegisterAs32Bit
  | .popIntoSP => .refused .popIntoSP
  | .dbgOperand => .refused .dbgOperand
  | .cacheOperation => .refused .cacheOperation
  | .shiftCount => .refused .shiftCount
  | .imm16Signedness => .refused .imm16Signedness

section

variable {s : State} {op : Byte} {d : Defect}

theorem defectIf_some {bad : Bool} {e : Defect} (h : defectIf bad e = some d) : bad = true ∧ d = e := by
  cases bad with
  | true => exact ⟨rfl, (Option.some.inj h).symm⟩
  | false => cases h

/-- The static check of register bytes finds what validation refuses. -/
theorem withRegs_of_defect {rs : List Byte} (h : regDefect s.params.nreg rs = some d) (k : Result) :
    withRegs s rs k = stopOf op d := by
  unfold regDefect at h
  split at h
  next hrange =>
    cases h
    rw [withRegs, regRefusal, someOutOfRange, if_pos hrange]
    rfl
  next hrange =>
    split at h <;> cases h
    next hvector =>
      rw [withRegs, regRefusal, someOutOfRange, someVector, if_neg hrange, if_pos hvector]
      rfl

theorem regRefusal_of_no_defect {rs : List Byte} (h : regDefect s.params.nreg rs = none) :
    regRefusal s.params.nreg rs = none := by
  unfold regDefect at h
  split at h
  next => cases h
  next hrange =>
    split at h
    next => cases h
    next hvector => rw [regRefusal, someOutOfRange, someVector, if_neg hrange, if_neg hvector]

/-- After the register bytes comes the check of the rule's own. -/
theorem withRegs_of_defect_or {rs : List Byte} {bad : Bool} {e : Defect} {k : Result}
    (h : (regDefect s.params.nreg rs).or (defectIf bad e) = some d) (hk : bad = true → k = stopOf op e) :
    withRegs s rs k = stopOf op d := by
  cases hregs : regDefect s.params.nreg rs with
  | some found =>
    rw [hregs, Option.some_or] at h
    exact withRegs_of_defect (hregs.trans h) k
  | none =>
    rw [hregs, Option.none_or] at h
    obtain ⟨hbad, rfl⟩ := defectIf_some h
    rw [withRegs, regRefusal_of_no_defect hregs]
    exact hk hbad

theorem withCell_of_defect {r : Byte} (h : cellDefect s.params.nreg r = some d) (k : Result) :
    withCell s r k = stopOf op d := by
  unfold cellDefect at h
  split at h <;> cases h
  next hrange =>
    refine if_pos ?_
    rw [someOutOfRange, List.any_cons, decide_eq_true hrange, Bool.true_or]

/-- An instruction whose only check is of its immediate. -/
theorem ite_of_defectIf {bad : Prop} [Decidable bad] {e : Defect} (h : defectIf (decide bad) e = some d) (k : Result) :
    (if bad then stopOf op e else k) = stopOf op d := by
  obtain ⟨hbad, rfl⟩ := defectIf_some h
  exact if_pos (of_decide_eq_true hbad)

end

theorem exec_of_defect {i : Instr} {s : State} {d : Defect} (h : i.defect s.params.nreg = some d) :
    exec i s = stopOf (opcodeOf i) d := by
  cases i
  case reservedDF | reservedED | reservedEE | reservedEF | reservedFA | reservedFB | reservedFC | reservedFD |
      reservedFE | illegal =>
    cases h
    rfl
  case pop => exact withRegs_of_defect_or h fun hsp => if_pos (beq_iff_eq.mp hsp)
  case shli | shri => exact withRegs_of_defect_or h fun hcount => withShiftCount_refused (of_decide_eq_true hcount) _
  case loop | select | loadi | storei | atomic =>
    exact withRegs_of_defect_or h fun himm => withAgreedImm16_refused (of_decide_eq_true himm) _
  case confLd | confSt | cThresh => exact withCell_of_defect h _
  case dbg => exact ite_of_defectIf h _
  case cache => exact ite_of_defectIf h _
  -- The bytes of the 32-bit positions are the only check
  case inc | dec | not | neg | push | movi | addi | subi | andi | ori | xori | add | sub | mul | div | mod | and | or |
      xor | shl | shr | min | max | cmpEq | cmpLt | cmpGt | cmpNe | fadd | fsub | fmul | fdiv | fmin | fmax | ftoi |
      itof | load | store | mov | swp | jz | jnz | jlt | jgt | movi16 | addi16 | subi16 | jal | call | loadoff |
      storeoff | copy | fill | cAdd | cSub | cMul | cDiv | cFadd | cFsub | cFmul | cFdiv | abs | sign | sqrt | pow |
      log2 | clz | ctz | popcnt | crc32 | rnd | seed | fmod | fsqrt | fsin | fcos | jall | calll =>
    exact withRegs_of_defect h _
  -- The others have no defect
  all_goals cases h

/-! ### The statements -/

/-- Settles O20: each check of an instruction is the first that fails, and names its own reason. -/
theorem illFormedInstructionsStop : Obligations.IllFormedInstructionsStop := by
  intro i s d h
  have hstop := exec_of_defect h
  cases d <;> exact hstop

/-- Settles O21: each of the fourteen arms refuses before it reads an operand or the state. -/
theorem systemAndConfidenceRefusals : Obligations.SystemAndConfidenceRefusals := by
  and_intros <;> intros <;> rfl

/-- Settles O23: each arm refuses before it reads an operand or the state. -/
theorem viewpointAndSensorRefusals : Obligations.ViewpointAndSensorRefusals := by
  and_intros <;> intros <;> rfl

/-- Settles O24: each arm refuses before it reads an operand or the state. -/
theorem collectionAndCryptoRefusals : Obligations.CollectionAndCryptoRefusals := by
  and_intros <;> intros <;> rfl

/-- Settles O25: each arm refuses before it reads an operand or the state. -/
theorem vectorAndTensorRefusals : Obligations.VectorAndTensorRefusals := by
  and_intros <;> intros <;> rfl

/-- Settles O26: each arm refuses before it reads an operand or the state. -/
theorem extendedMemoryJumpAndSystemRefusals : Obligations.ExtendedMemoryJumpAndSystemRefusals := by
  and_intros <;> intros <;> rfl

/-- Settles O27: each arm raises before it reads anything but pc. -/
theorem reservedSlotsBrkAndWfiStop : Obligations.ReservedSlotsBrkAndWfiStop := by
  and_intros <;> intros <;> rfl

/-- Settles O28: CACHE and DBG test their operand first; the others complete in every state. -/
theorem haltNoOperationsDbgAndClf : Obligations.HaltNoOperationsDbgAndClf := by
  refine ⟨fun s => ⟨rfl, rfl, rfl, fun _ => rfl⟩, fun s => ⟨fun imm8 hop => if_neg hop.not_gt, fun imm8 h48 hreg => ?_,
    fun _ => rfl⟩, rfl⟩
  exact if_neg (lt_min hreg h48).not_ge

end Sys2Proof.Machine

end

/-! Confidence (spec/48_confidence_a2a.md section 1): the laws of CONF (R511), the eight arithmetic instructions (R512
to R519) and their base instructions (R528). -/

section

namespace Sys2Proof.Machine

/-! ### The laws of CONF (48_confidence_a2a.md R511) -/

theorem Conf.clampTo_le (free : Rat) (bound : Conf) : (clampTo free bound).val ≤ bound.val := by
  rw [clampTo]
  split
  next h => exact h.2
  next => exact le_rfl

theorem Conf.clampTo_of_mem {free : Rat} {bound : Conf} (h0 : 0 ≤ free) (hle : free ≤ bound.val) :
    (clampTo free bound).val = free := by
  rw [clampTo, dif_pos ⟨h0, hle⟩]

theorem Conf.min_eq_or (a b : Conf) : min a b = a ∨ min a b = b := by
  rw [min]
  split
  next => exact .inl rfl
  next => exact .inr rfl

theorem Conf.min_val (a b : Conf) : (min a b).val = Min.min a.val b.val := by
  rw [min, min_def, apply_ite Conf.val]

theorem Conf.max_val (a b : Conf) : (max a b).val = Max.max a.val b.val := by
  rw [max, max_def, apply_ite Conf.val]

theorem Conf.mul_le_min (p : ConfParam) (a b : Conf) : (mul p a b).val ≤ (min a b).val := by
  cases p <;> exact clampTo_le _ _

theorem Conf.divloss_le_mul (p : ConfParam) (a b : Conf) : (divloss p a b).val ≤ (mul p a b).val := by
  cases p <;> exact clampTo_le _ _

/-- The product of two values in 0..1 is at most each of them. -/
theorem Conf.mul_exactRationals (e : Epsilon) (a b : Conf) : (mul (.exactRationals e) a b).val = a.val * b.val := by
  refine clampTo_of_mem (mul_nonneg a.nonneg b.nonneg) ?_
  rw [min_val]
  exact le_min (mul_le_of_le_one_right a.nonneg b.leOne) (mul_le_of_le_one_left b.nonneg a.leOne)

theorem Conf.divloss_exactRationals (e : Epsilon) (a b : Conf) :
    (divloss (.exactRationals e) a b).val = a.val * b.val * (1 - e.val) := by
  have hprod : 0 ≤ a.val * b.val := mul_nonneg a.nonneg b.nonneg
  refine clampTo_of_mem (mul_nonneg hprod (sub_nonneg.mpr e.ltOne.le)) ?_
  rw [mul_exactRationals]
  exact mul_le_of_le_one_right hprod (sub_le_self 1 e.pos.le)

/-- Between 0 and 255 the free values are made to rise by taking the highest so far. -/
theorem Conf.freeByteUpTo_mono : Monotone fun n => (freeByteUpTo n).val :=
  monotone_nat_of_le_succ fun n => by
    rw [freeByteUpTo, max_val]
    exact le_max_left _ _

theorem Conf.ofByte_exactRationals (e : Epsilon) (n : Byte) :
    (ofByte (.exactRationals e) n).val = (n.toNat : Rat) / 255 := by
  have hn : (n.toNat : Rat) ≤ 255 := by exact_mod_cast Nat.le_of_lt_succ n.isLt
  exact clampTo_of_mem (by positivity) ((div_le_one (by norm_num)).mpr hn)

theorem Conf.ofByte_mono (p : ConfParam) {m n : Byte} (h : m ≤ n) : (ofByte p m).val ≤ (ofByte p n).val := by
  have hle : m.toNat ≤ n.toNat := h
  cases p with
  | anyAdmissible =>
    rw [ofByte, ofByte]
    by_cases hn : n = 255
    · rw [if_pos hn]
      exact leOne _
    · have hm : m ≠ 255 := by
        rintro rfl
        exact hn (BitVec.eq_of_toNat_eq (Nat.le_antisymm (Nat.le_of_lt_succ n.isLt) hle))
      rw [if_neg hm, if_neg hn]
      exact freeByteUpTo_mono hle
  | exactRationals e =>
    rw [ofByte_exactRationals, ofByte_exactRationals]
    gcongr

/-! ### The end of a confidence instruction -/

/-- Writing a cell and a register changes nothing else. -/
theorem writesRegAndCell_setX_setC (s : State) {rd : Byte} (h : rd.toNat < 48) (r : Word) (k : Conf) :
    WritesRegAndCell s ((s.setC rd k).setX rd r) rd r k :=
  ⟨State.getX_setX_self _ h r, State.getC_setC_self s (by omega) k, sameRegs_setX (s.setC rd k) rd r,
    sameCells_setC s rd k, rfl, fun _ => rfl, sameRun_setX (s.setC rd k) rd r⟩

theorem completesConfZS_of_finishZS {i : Instr} {s : State} {rd : Byte} {r : Word} {k : Conf} (h : rd.toNat < 48)
    (hi : exec i s = finishZS (s.setC rd k) rd r 4) : CompletesConfZS i s rd r k :=
  ⟨_, hi, rfl, writesRegAndCell_setX_setC s h r k, rfl, rfl⟩

theorem completesConfAny_of_finishAny {i : Instr} {s : State} {rd : Byte} {r : Word} {k : Conf} (h : rd.toNat < 48)
    (hi : exec i s = finishAny (s.setC rd k) rd r 4) : CompletesConfAny i s rd r k :=
  ⟨_, hi, rfl, writesRegAndCell_setX_setC s h r k⟩

theorem quotient_eq (m : DivMode) (a b : Int) :
    quotient m a b = if m = .trunc then a.tdiv b else a.fdiv b := by
  cases m <;> rfl

/-! ### A float divisor of either zero (43_float_memory_control.md R291, R295) -/

/-- Both zeros, and no other pattern, have bits 30 to 0 all 0. -/
theorem Fnum.isZero_iff (p : Word) : isZero p = true ↔ p = 0x00000000 ∨ p = 0x80000000 := by
  rw [isZero, beq_iff_eq]
  constructor
  · intro h
    have hlow : p.toNat % 2 ^ 31 = 0 := by simpa using congrArg BitVec.toNat h
    have hp : p.toNat = 0 ∨ p.toNat = 2 ^ 31 := by omega
    exact hp.imp (fun h => BitVec.eq_of_toNat_eq h) fun h => BitVec.eq_of_toNat_eq h
  · rintro (rfl | rfl) <;> rfl

theorem withFloatDivisor_of {s : State} {r : Byte} (h0 : s.getX r ≠ 0x00000000) (h1 : s.getX r ≠ 0x80000000)
    (k : Result) : withFloatDivisor s r k = k :=
  if_neg fun h => ((Fnum.isZero_iff _).mp h).elim h0 h1

theorem withFloatDivisor_fault {s : State} {r : Byte} (h : s.getX r = 0x00000000 ∨ s.getX r = 0x80000000)
    (k : Result) : withFloatDivisor s r k = .fault (.divideByZero s.pc) :=
  if_pos ((Fnum.isZero_iff _).mpr h)

/-! ### A confidence instruction and its base instruction go the same way (48_confidence_a2a.md R528) -/

section

variable {s : State} {a b : Result}

/-- A check that both instructions make first. -/
theorem sameButConfidence_withRegs {rs : List Byte} (h : SameButConfidence a b) :
    SameButConfidence (withRegs s rs a) (withRegs s rs b) := by
  unfold withRegs
  split
  · rfl
  · exact h

theorem sameButConfidence_ite {c : Prop} [Decidable c] {stop : Fault} (h : SameButConfidence a b) :
    SameButConfidence (if c then raise stop else a) (if c then raise stop else b) := by
  split
  · rfl
  · exact h

theorem sameButConfidence_finishZS (rd : Byte) (k : Conf) (r : Word) :
    SameButConfidence (finishZS (s.setC rd k) rd r 4) (finishZS s rd r 4) := ⟨rfl, rfl, rfl, rfl⟩

theorem sameButConfidence_finishAny (rd : Byte) (k : Conf) (r : Word) :
    SameButConfidence (finishAny (s.setC rd k) rd r 4) (finishAny s rd r 4) := ⟨rfl, rfl, rfl, rfl⟩

end

/-! ### The statements -/

/-- Settles O53: each writes its cell and its register, the result being that of the base instruction. -/
theorem confidenceArithmetic : Obligations.ConfidenceArithmetic := by
  intro s rd rs1 rs2 h a b low joint loss
  have hrd : rd.toNat < 48 := h.toNat_lt (.head _)
  rw [wrap32_add, wrap32_sub, wrap32_mul, wrap32_u32, wrap32_u32, wrap32_s32, wrap32_s32, ← quotient_eq]
  refine ⟨completesConfZS_of_finishZS hrd (withRegs_of h _), completesConfZS_of_finishZS hrd (withRegs_of h _),
    completesConfZS_of_finishZS hrd (withRegs_of h _), completesConfAny_of_finishAny hrd (withRegs_of h _),
    completesConfAny_of_finishAny hrd (withRegs_of h _), completesConfAny_of_finishAny hrd (withRegs_of h _),
    fun hb => ?_, fun hb => ?_, fun h0 h1 => ?_, fun hzero => ?_⟩
  · exact completesConfAny_of_finishAny hrd ((withRegs_of h _).trans (withDivisor_of hb _))
  · exact (withRegs_of h _).trans (withDivisor_fault hb _)
  · exact completesConfAny_of_finishAny hrd ((withRegs_of h _).trans (withFloatDivisor_of h0 h1 _))
  · exact (withRegs_of h _).trans (withFloatDivisor_fault hzero _)

/-- Settles O54: every value is brought under its bound, and the recommended ones are under it already. -/
theorem confidenceLaws : Obligations.ConfidenceLaws := by
  refine ⟨fun a b => ⟨Conf.min_eq_or a b, ?_, ?_, decide_eq_true_iff⟩,
    fun p a b => ⟨Conf.mul_le_min p a b, Conf.divloss_le_mul p a b⟩, fun p => ⟨?_, ?_, fun m n => Conf.ofByte_mono p⟩,
    fun e a b n => ⟨Conf.mul_exactRationals e a b, Conf.divloss_exactRationals e a b, Conf.ofByte_exactRationals e n⟩⟩
  · exact (Conf.min_val a b).trans_le (min_le_left _ _)
  · exact (Conf.min_val a b).trans_le (min_le_right _ _)
  · cases p with
    | anyAdmissible => rfl
    | exactRationals e => exact (Conf.ofByte_exactRationals e 0).trans (by norm_num)
  · cases p with
    | anyAdmissible => rfl
    | exactRationals e => exact (Conf.ofByte_exactRationals e 255).trans (by simp)

/-- Settles O55: both validate the same bytes and test the same divisor, and end in the same register write. -/
theorem confidenceErasure : Obligations.ConfidenceErasure := by
  intro s rd rs1 rs2
  exact ⟨sameButConfidence_withRegs (sameButConfidence_finishZS _ _ _),
    sameButConfidence_withRegs (sameButConfidence_finishZS _ _ _),
    sameButConfidence_withRegs (sameButConfidence_finishZS _ _ _),
    sameButConfidence_withRegs (sameButConfidence_ite (sameButConfidence_finishAny _ _ _)),
    sameButConfidence_withRegs (sameButConfidence_finishAny _ _ _),
    sameButConfidence_withRegs (sameButConfidence_finishAny _ _ _),
    sameButConfidence_withRegs (sameButConfidence_finishAny _ _ _),
    sameButConfidence_withRegs (sameButConfidence_ite (sameButConfidence_finishAny _ _ _))⟩

end Sys2Proof.Machine

end

/-! Data memory as a map from addresses to bytes (spec/20_memory.md sections 1 and 5), and CRC32, RND and SEED
(47_extmath_collection.md R468, R470, R471). -/

section

namespace Sys2Proof.Machine

/-! ### The word at an address (20_memory.md R83) -/

/-- Each byte put below the others adds its value to 256 times theirs. -/
theorem toNat_append_byte {n : Nat} (hi : BitVec n) (lo : Byte) : (hi ++ lo).toNat = hi.toNat * 2 ^ 8 + lo.toNat := by
  rw [BitVec.toNat_append, ← Nat.shiftLeft_add_eq_or_of_lt lo.isLt, Nat.shiftLeft_eq]

theorem Memory.word_toNat (m : Memory) (a : Nat) : u32 (m.word a) =
    (m.get a).toNat + (m.get (a + 1)).toNat * 2 ^ 8 + (m.get (a + 2)).toNat * 2 ^ 16 +
      (m.get (a + 3)).toNat * 2 ^ 24 := by
  simp only [word, u32, toNat_append_byte]
  omega

/-- Two fields of bits that meet are one field. -/
theorem extractLsb'_join {w : Nat} (v : BitVec w) (start len len' : Nat) :
    v.extractLsb' (start + len) len' ++ v.extractLsb' start len = v.extractLsb' start (len' + len) :=
  BitVec.extractLsb'_append_extractLsb'_eq_extractLsb' rfl

/-- The four bytes of a word, the highest leading, make it up again. -/
theorem extractLsb'_append_bytes (v : Word) :
    v.extractLsb' 24 8 ++ v.extractLsb' 16 8 ++ v.extractLsb' 8 8 ++ v.extractLsb' 0 8 = v := by
  rw [extractLsb'_join v 16 8 8, extractLsb'_join v 8 8 16, extractLsb'_join v 0 8 24]
  exact BitVec.extractLsb'_eq_self

/-- A word stored is the word read. -/
theorem Memory.word_setBytes {m : Memory} (hwf : m.wf = true) {a : Nat} (ha : a + 4 ≤ Config.memSize) (v : Word) :
    (m.setBytes a (wordBytes v)).word a = v := by
  have hget (k : Nat) : (m.setBytes a (wordBytes v)).get (a + k) = ((wordBytes v)[k]?).getD (m.get (a + k)) := by
    rw [get_setBytes _ hwf ha, if_pos (Nat.le_add_right a k), Nat.add_sub_cancel_left]
  have hget0 : (m.setBytes a (wordBytes v)).get a = v.extractLsb' 0 8 := hget 0
  rw [word, hget 3, hget 2, hget 1, hget0]
  exact extractLsb'_append_bytes v

theorem load32_of_store32 {m m' : Memory} (hwf : m.wf = true) {a : Int} {v : Word} (h : m.store32 a v = some m') :
    m'.load32 a = some v := by
  obtain ⟨hnonneg, hend, rfl⟩ := store32_some h
  rw [Memory.load32, if_pos (inBounds_iff.mpr ⟨hnonneg, hend⟩), Memory.word_setBytes hwf (by omega)]

/-! ### The canonical form is determined by what is read (log 3) -/

namespace Memory

theorem get_cons_self (a : Nat) (v : Byte) (rest : Memory) : get ((a, v) :: rest) a = v := if_pos rfl

theorem get_cons_of_ne {a b : Nat} (h : a ≠ b) (v : Byte) (rest : Memory) : get ((a, v) :: rest) b = rest.get b :=
  if_neg h

/-- Two canonical memories that read the same do not differ in their lowest address, for there only one of them would be
listed; and what follows it reads the same too. -/
theorem eq_of_get_from : ∀ {m m' : Memory} {lo : Nat}, wfFrom lo m = true → wfFrom lo m' = true →
    (∀ a, m.get a = m'.get a) → m = m'
  | [], [], _, _, _, _ => rfl
  | [], (b, w) :: rest', _, _, hwf', hget => by
    obtain ⟨-, -, hlisted, -⟩ := wfFrom_cons.mp hwf'
    exact absurd ((get_cons_self b w rest').symm.trans (hget b).symm) hlisted
  | (a, v) :: rest, [], _, hwf, _, hget => by
    obtain ⟨-, -, hlisted, -⟩ := wfFrom_cons.mp hwf
    exact absurd ((get_cons_self a v rest).symm.trans (hget a)) hlisted
  | (a, v) :: rest, (b, w) :: rest', lo, hwf, hwf', hget => by
    obtain ⟨hlo, hin, hv, hrest⟩ := wfFrom_cons.mp hwf
    obtain ⟨hlo', hin', hw, hrest'⟩ := wfFrom_cons.mp hwf'
    have hba : b ≤ a := by
      by_contra hlt
      have hunlisted : get ((b, w) :: rest') a = unlisted :=
        get_of_lt (lo := b) (wfFrom_cons.mpr ⟨le_rfl, hin', hw, hrest'⟩) (not_le.mp hlt)
      exact hv ((get_cons_self a v rest).symm.trans ((hget a).trans hunlisted))
    have hab : a ≤ b := by
      by_contra hlt
      have hunlisted : get ((a, v) :: rest) b = unlisted :=
        get_of_lt (lo := a) (wfFrom_cons.mpr ⟨le_rfl, hin, hv, hrest⟩) (not_le.mp hlt)
      exact hw ((get_cons_self b w rest').symm.trans ((hget b).symm.trans hunlisted))
    obtain rfl : a = b := le_antisymm hab hba
    have hvw : v = w := by rw [← get_cons_self a v rest, hget a, get_cons_self]
    have htail (c : Nat) : get rest c = get rest' c := by
      by_cases hac : a = c
      · subst hac
        rw [get_of_lt hrest (Nat.lt_succ_self a), get_of_lt hrest' (Nat.lt_succ_self a)]
      · rw [← get_cons_of_ne hac v rest, hget c, get_cons_of_ne hac]
    rw [hvw, eq_of_get_from hrest hrest' htail]

theorem bytes_eq_map (m : Memory) (a n : Nat) : m.bytes a n = (List.range n).map fun k => m.get (a + k) := by
  induction n generalizing a with
  | zero => rfl
  | succ n ih =>
    rw [bytes, ih, List.range_succ_eq_map, List.map_cons, List.map_map]
    refine congrArg₂ List.cons rfl (List.map_congr_left fun k _ => ?_)
    rw [Function.comp_apply, Nat.add_assoc, Nat.add_comm 1 k]

end Memory

/-! ### The range of RND (47_extmath_collection.md R470) -/

theorem s32_wrap32 {n : Int} (hlo : -2 ^ 31 ≤ n) (hhi : n < 2 ^ 31) : s32 (wrap32 n) = n :=
  BitVec.toInt_ofInt_eq_self (by decide) hlo hhi

/-- A drawn word gives a value between the bounds, for they are themselves in s32. -/
theorem s32_inRange (x y w : Word) (h : s32 x ≤ s32 y) :
    s32 x ≤ s32 (inRange (s32 x) (s32 y) w) ∧ s32 (inRange (s32 x) (s32 y) w) ≤ s32 y := by
  have hx : -2 ^ 31 ≤ s32 x := BitVec.le_toInt x
  have hy : s32 y < 2 ^ 31 := BitVec.toInt_lt
  have hwidth : 0 < s32 y - s32 x + 1 := by omega
  have hmod := Int.emod_nonneg (u32 w : Int) hwidth.ne'
  have hlt := Int.emod_lt_of_pos (u32 w : Int) hwidth
  rw [inRange, s32_wrap32 (by omega) (by omega)]
  omega

/-- A value between the bounds is that of the word which is its distance from the lower one. -/
theorem exists_inRange_eq {x y r : Word} (hlo : s32 x ≤ s32 r) (hhi : s32 r ≤ s32 y) :
    ∃ w, inRange (s32 x) (s32 y) w = r := by
  have hx : -2 ^ 31 ≤ s32 x := BitVec.le_toInt x
  have hr : s32 r < 2 ^ 31 := BitVec.toInt_lt
  have hword : (u32 (wrap32 (s32 r - s32 x)) : Int) = s32 r - s32 x := by
    rw [u32, wrap32, BitVec.toNat_ofInt, Int.toNat_of_nonneg (Int.emod_nonneg _ (by decide))]
    exact Int.emod_eq_of_lt (by omega) (by norm_num; omega)
  refine ⟨wrap32 (s32 r - s32 x), ?_⟩
  rw [inRange, hword, Int.emod_eq_of_lt (by omega) (by omega), add_sub_cancel, wrap32_s32]

/-! ### What CRC32, RND and SEED do -/

theorem exec_crc32 {s : State} {rd rs1 rs2 : Byte} (h : Regs32 s [rd, rs1, rs2]) :
    exec (.crc32 rd rs1 rs2) s =
      if 0 < u32 (s.getX rs2) ∧ !inBounds (s32 (s.getX rs1)) (u32 (s.getX rs2)) then
        .fault (.memoryFault (s32 (s.getX rs1)))
      else finishZ s rd (crc32 s.params.crc32 (s.mem.bytes (s32 (s.getX rs1)).toNat (u32 (s.getX rs2)))) 4 :=
  withRegs_of h _

theorem exec_rnd {s : State} {rd rs1 rs2 : Byte} (h : Regs32 s [rd, rs1, rs2]) :
    exec (.rnd rd rs1 rs2) s = if s32 (s.getX rs2) < s32 (s.getX rs1) then .refused .rndEmptyRange
      else .next
        ((s.setX rd (inRange (s32 (s.getX rs1)) (s32 (s.getX rs2)) (Config.anyWord s.draws))).drew.advance 4) :=
  withRegs_of h _

theorem exec_seed {s : State} {rd rs1 : Byte} (ign : Byte) (h : Regs32 s [rd, rs1]) :
    exec (.seed rd rs1 ign) s = .next (((s.setSeed (s.getX rs1)).setX rd (s.seed.getD 0)).advance 4) := withRegs_of h _

/-! ### The statements -/

/-- Settles O48: the stored bytes are read back, a word is its bytes, and canonical memories are extensional. -/
theorem memoryReadsWhatWasWritten : Obligations.MemoryReadsWhatWasWritten :=
  ⟨fun _ _ _ _ hwf => load32_of_store32 hwf, Memory.word_toNat, fun _ _ => Memory.eq_of_get_from⟩

/-- Settles O60: CRC32 by whether its bytes are inside memory, RND by the order of its bounds. -/
theorem crcRndAndSeed : Obligations.CrcRndAndSeed := by
  intro s rd rs1 rs2 ign h a b n
  have hrd : rd.toNat < 48 := h.toNat_lt (.head _)
  refine ⟨fun hin => ?_, fun hpos hout => ?_, fun hab => ?_, fun hab w => s32_inRange _ _ w hab,
    fun r => exists_inRange_eq, fun hba => (exec_rnd h).trans (if_pos hba), ?_⟩
  · refine completesZ_of_finishZ hrd ?_
    rw [← Memory.bytes_eq_map, exec_crc32 h, if_neg]
    rintro ⟨hpos, hout⟩
    obtain hzero | hin := hin
    · exact hpos.ne' hzero
    · exact absurd (inBounds_iff_inMemory.mpr hin) (by simpa using hout)
  · exact (exec_crc32 h).trans (if_pos ⟨hpos, by rw [inBounds_of_not_inMemory hout]; rfl⟩)
  · exact ⟨_, (exec_rnd h).trans (if_neg hab.not_gt), rfl, writesReg_setX s hrd _, rfl⟩
  · exact ⟨_, exec_seed ign (h.mono (by simp)), rfl, State.getX_setX_self _ hrd _, sameRegs_setX _ _ _, rfl, rfl,
      fun _ => rfl, ⟨rfl, rfl⟩, rfl, rfl, rfl, rfl, rfl, rfl, rfl⟩

end Sys2Proof.Machine

end

/-! FNUM, the binary32 arithmetic (spec/43_float_memory_control.md section 1, R291): the fields and the value of a pattern,
the results that its laws fix, and the instructions that write them (R292 to R299; 47_extmath_collection.md R472 to
R475). -/

section

namespace Sys2Proof.Machine

namespace Fnum

/-! ### The fields of a pattern -/

theorem exponent_eq (p : Word) : exponent p = p.toNat / 2 ^ 23 % 2 ^ 8 := by
  rw [exponent, BitVec.extractLsb'_toNat, Nat.shiftRight_eq_div_pow]

theorem fraction_eq (p : Word) : fraction p = p.toNat % 2 ^ 23 := by
  rw [fraction, BitVec.extractLsb'_toNat, Nat.shiftRight_zero]

theorem exponent_lt (p : Word) : exponent p < 2 ^ 8 := (p.extractLsb' 23 8).isLt

theorem fraction_lt (p : Word) : fraction p < 2 ^ 23 := (p.extractLsb' 0 23).isLt

theorem msb_iff (p : Word) : p.msb = true ↔ 2 ^ 31 ≤ p.toNat := by
  rw [BitVec.msb_eq_decide, decide_eq_true_iff]

theorem isZero_iff_mod (p : Word) : isZero p = true ↔ p.toNat % 2 ^ 31 = 0 := by
  rw [isZero, beq_iff_eq, ← BitVec.toNat_inj, BitVec.extractLsb'_toNat, Nat.shiftRight_zero]
  rfl

theorem isFinite_iff (p : Word) : isFinite p = true ↔ exponent p ≠ 255 := bne_iff_ne

theorem exponent_le_of_isFinite {p : Word} (hfin : isFinite p = true) : exponent p ≤ 254 := by
  have hne := (isFinite_iff p).mp hfin
  have hlt := exponent_lt p
  omega

theorem isNaN_iff (p : Word) : isNaN p = true ↔ exponent p = 255 ∧ fraction p ≠ 0 := by
  rw [isNaN, Bool.and_eq_true, beq_iff_eq, bne_iff_ne]

theorem isNeg_iff (p : Word) : isNeg p = true ↔ p.msb = true ∧ ¬ isNaN p = true ∧ ¬ isZero p = true := by
  simp [isNeg, and_assoc]

/-- A pattern is its three fields. -/
theorem pattern_fields (p : Word) : pattern p.msb (exponent p) (fraction p) = p := by
  have hmsb : BitVec.ofBool p.msb = p.extractLsb' 31 1 := by
    ext k hk
    obtain rfl : k = 0 := by omega
    simp [BitVec.msb_eq_getLsbD_last]
  rw [pattern, exponent, fraction, BitVec.ofNat_toNat, BitVec.ofNat_toNat, BitVec.setWidth_eq, BitVec.setWidth_eq,
    hmsb, extractLsb'_join p 23 8 1, extractLsb'_join p 0 23 9]
  exact BitVec.extractLsb'_eq_self

/-! ### The value of a pattern -/

theorem natAbs_value (p : Word) : (value p).natAbs = magnitude p := by
  rw [value]
  split
  · rw [Int.natAbs_neg, Int.natAbs_natCast]
  · exact Int.natAbs_natCast _

/-- The sign of a value that is not 0 is the sign bit. -/
theorem decide_value_neg {p : Word} (h : value p ≠ 0) : decide (value p < 0) = p.msb := by
  have hpos : 0 < magnitude p := by
    rw [← natAbs_value]
    exact Int.natAbs_pos.mpr h
  rw [value]
  cases p.msb with
  | true => exact decide_eq_true (by simpa using hpos)
  | false => exact decide_eq_false (by simp)

theorem magnitude_of_exponent_zero {p : Word} (h : exponent p = 0) : magnitude p = fraction p := if_pos h

theorem magnitude_of_exponent_ne_zero {p : Word} (h : exponent p ≠ 0) :
    magnitude p = (2 ^ 23 + fraction p) * 2 ^ (exponent p - 1) := if_neg h

theorem value_cast (p : Word) : (value p : Rat) = realOf p * unit := by
  rw [realOf, unit, div_mul_cancel₀]
  positivity

theorem unit_pos : (0 : Rat) < unit := by
  rw [unit]
  positivity

theorem unit_pos_int : (0 : Int) < unit := by exact_mod_cast unit_pos

theorem value_ne_zero {p : Word} (h : realOf p ≠ 0) : value p ≠ 0 := by
  have hreal : (value p : Rat) ≠ 0 := by
    rw [value_cast]
    exact mul_ne_zero h unit_pos.ne'
  exact_mod_cast hreal

theorem value_lt {a b : Word} (h : realOf a < realOf b) : value a < value b := by
  have hreal : (value a : Rat) < value b := by
    rw [value_cast, value_cast]
    exact mul_lt_mul_of_pos_right h unit_pos
  exact_mod_cast hreal

/-! ### A value that is not 0 has one pattern (R291 (a)) -/

theorem exactPattern_of_lt {n : Int} (h0 : n ≠ 0) (hn : n.natAbs < 2 ^ 23) :
    exactPattern n = some (pattern (decide (n < 0)) 0 n.natAbs) := by
  rw [exactPattern]
  rw [if_neg (Int.natAbs_ne_zero.mpr h0), if_pos hn]

theorem exactPattern_of_mul_pow {n : Int} {f k : Nat} (hn : n.natAbs = (2 ^ 23 + f) * 2 ^ k) (hf : f < 2 ^ 23)
    (hk : k ≤ 253) : exactPattern n = some (pattern (decide (n < 0)) (k + 1) f) := by
  have hpow : 0 < 2 ^ k := Nat.two_pow_pos k
  have hge : 2 ^ 23 ≤ n.natAbs := hn ▸ le_trans (Nat.le_add_right _ f) (Nat.le_mul_of_pos_right _ hpow)
  have hlog : n.natAbs.log2 = 23 + k := by
    refine (Nat.log2_eq_iff (by omega)).mpr ⟨?_, ?_⟩
    · rw [hn, Nat.pow_add]
      exact Nat.mul_le_mul_right _ (Nat.le_add_right _ f)
    · rw [hn, Nat.add_right_comm, Nat.pow_add]
      exact Nat.mul_lt_mul_of_pos_right (by omega) hpow
  rw [exactPattern]
  rw [hlog, Nat.add_sub_cancel_left, if_neg (by omega), if_neg (by omega), hn, Nat.mul_mod_left, if_neg (by omega),
    Nat.mul_div_cancel _ hpow, Nat.add_sub_cancel_left]

theorem exactPattern_value {r : Word} (hfin : isFinite r = true) (h0 : value r ≠ 0) :
    exactPattern (value r) = some r := by
  have habs := natAbs_value r
  have hfields := pattern_fields r
  rw [← decide_value_neg h0] at hfields
  by_cases hexp : exponent r = 0
  · rw [magnitude_of_exponent_zero hexp] at habs
    rw [exactPattern_of_lt h0 (habs ▸ fraction_lt r), habs, ← hexp, hfields]
  · rw [magnitude_of_exponent_ne_zero hexp] at habs
    have hle := exponent_le_of_isFinite hfin
    rw [exactPattern_of_mul_pow habs (fraction_lt r) (by omega), Nat.sub_add_cancel (by omega), hfields]

/-! ### The results that law (a) fixes -/

theorem divExact_mul {k d : Int} (hd : d ≠ 0) : divExact (k * d) d = some k := by
  rw [divExact, if_pos (Int.mul_emod_left k d), Int.mul_ediv_cancel k hd]

theorem magnitude_lt {p : Word} (hfin : isFinite p = true) : magnitude p < 2 ^ 24 * 2 ^ 253 := by
  have hfrac := fraction_lt p
  by_cases hexp : exponent p = 0
  · rw [magnitude_of_exponent_zero hexp]
    exact hfrac.trans (by norm_num)
  · have hle := exponent_le_of_isFinite hfin
    calc magnitude p
      _ = (2 ^ 23 + fraction p) * 2 ^ (exponent p - 1) := magnitude_of_exponent_ne_zero hexp
      _ < 2 ^ 24 * 2 ^ (exponent p - 1) := Nat.mul_lt_mul_of_pos_right (by omega) (Nat.two_pow_pos _)
      _ ≤ 2 ^ 24 * 2 ^ 253 := Nat.mul_le_mul_left _ (Nat.pow_le_pow_right (by decide) (by omega))

theorem value_of_msb {p : Word} (h : p.msb = true) : value p = -magnitude p := if_pos h

theorem value_of_not_msb {p : Word} (h : p.msb = false) : value p = magnitude p := by
  rw [value, h]
  rfl

/-- A positive value has a clear sign bit. -/
theorem msb_of_value_pos {p : Word} (h : 0 < value p) : p.msb = false := by
  rw [← Bool.not_eq_true]
  intro hmsb
  rw [value_of_msb hmsb] at h
  omega

/-- The root is sought among 214 bits, and the square has fewer than 428. -/
theorem rootExact_of_sq {m n : Nat} (hm : m < 2 ^ 24 * 2 ^ 253) (h : n * n = m * unit) :
    rootExact m = some (n : Int) := by
  have hbound : m * unit < 2 ^ 214 * 2 ^ 214 := calc
    m * unit < 2 ^ 24 * 2 ^ 253 * unit := Nat.mul_lt_mul_of_pos_right hm (Nat.two_pow_pos 149)
    _ ≤ 2 ^ 214 * 2 ^ 214 := by norm_num [unit]
  rw [rootExact, isqrt_eq_sqrt hbound, ← h, Nat.sqrt_eq, if_pos rfl]

section

variable {a b r : Word} (ha : isFinite a = true) (hr : isFinite r = true) (hr0 : realOf r ≠ 0)
include ha hr hr0

section

variable (hb : isFinite b = true)
include hb

theorem exactOr2_eq {n : Option Int} (hn : n = some (value r)) (free : Word) : exactOr2 a b n free = r := by
  rw [exactOr2, ha, hb, hn, Bool.and_true, if_pos rfl, Option.bind_some, exactPattern_value hr (value_ne_zero hr0),
    Option.getD_some]

theorem add_eq (h : realOf a + realOf b = realOf r) : add a b = r := by
  have hvalue : (value a : Rat) + value b = value r := by
    rw [value_cast, value_cast, value_cast, ← add_mul, h]
  exact exactOr2_eq ha hr hr0 hb (congrArg some (by exact_mod_cast hvalue)) _

theorem sub_eq (h : realOf a - realOf b = realOf r) : sub a b = r := by
  have hvalue : (value a : Rat) - value b = value r := by
    rw [value_cast, value_cast, value_cast, ← sub_mul, h]
  exact exactOr2_eq ha hr hr0 hb (congrArg some (by exact_mod_cast hvalue)) _

theorem mul_eq (h : realOf a * realOf b = realOf r) : mul a b = r := by
  have hreal : (value a : Rat) * value b = value r * unit := by
    rw [value_cast, value_cast, value_cast, mul_mul_mul_comm, h, mul_assoc]
  have hvalue : value a * value b = value r * unit := by exact_mod_cast hreal
  exact exactOr2_eq ha hr hr0 hb (hvalue ▸ divExact_mul unit_pos_int.ne') _

theorem div_eq (hb0 : realOf b ≠ 0) (h : realOf a / realOf b = realOf r) : div a b = r := by
  have hreal : (value a : Rat) * unit = value r * value b := by
    rw [value_cast, value_cast, value_cast, mul_mul_mul_comm, ← h, div_mul_cancel₀ _ hb0, mul_assoc]
  have hvalue : value a * unit = value r * value b := by exact_mod_cast hreal
  have hb0 : value b ≠ 0 := value_ne_zero hb0
  exact exactOr2_eq ha hr hr0 hb ((if_neg hb0).trans (hvalue ▸ divExact_mul hb0)) _

end

theorem sqrt_eq (hpos : 0 < realOf r) (h : realOf r * realOf r = realOf a) : sqrt a = r := by
  have hreal : (value r : Rat) * value r = value a * unit := by
    rw [value_cast, value_cast, mul_mul_mul_comm, h, mul_assoc]
  have hvalue : value r * value r = value a * unit := by exact_mod_cast hreal
  have hrpos : 0 < value r := by
    have hcast : (0 : Rat) < value r := value_cast r ▸ mul_pos hpos unit_pos
    exact_mod_cast hcast
  have hapos : 0 < value a := pos_of_mul_pos_left (hvalue ▸ mul_pos hrpos hrpos) unit_pos_int.le
  have hamsb := msb_of_value_pos hapos
  have hneg : isNeg a = false := by rw [isNeg, hamsb, Bool.false_and, Bool.false_and]
  have hrmag := value_of_not_msb (msb_of_value_pos hrpos)
  rw [value_of_not_msb hamsb, hrmag] at hvalue
  have hroot := rootExact_of_sq (magnitude_lt ha) (by exact_mod_cast hvalue)
  rw [sqrt, ha, hneg, Bool.not_false, Bool.and_true, if_pos rfl, hroot, Option.bind_some, ← hrmag,
    exactPattern_value hr (value_ne_zero hr0), Option.getD_some]

omit ha in
theorem ofInt_eq {k : Word} (h : (s32 k : Rat) = realOf r) : ofInt k = r := by
  have hreal : (s32 k : Rat) * unit = value r := by rw [value_cast, h]
  have hvalue : s32 k * unit = value r := by exact_mod_cast hreal
  rw [ofInt, hvalue, exactPattern_value hr (value_ne_zero hr0), Option.getD_some]

end

/-! ### The reading of a pattern as a real number -/

/-- One unit is 2^-149 (R291). -/
theorem div_unit (x : Rat) : x / (2 ^ 149 : Nat) = x * 2 ^ (-149 : Int) := by
  rw [div_eq_mul_inv, zpow_neg]
  norm_cast

theorem magnitude_div_unit (p : Word) : (magnitude p : Rat) * 2 ^ (-149 : Int) =
    if exponent p = 0 then (fraction p : Rat) * 2 ^ (-149 : Int)
    else (1 + (fraction p : Rat) / 2 ^ 23) * 2 ^ ((exponent p : Int) - 127) := by
  split
  next hexp => rw [magnitude_of_exponent_zero hexp]
  next hexp =>
    obtain ⟨k, hk⟩ := Nat.exists_eq_succ_of_ne_zero hexp
    have hscale : (2 : Rat) ^ ((k.succ : Int) - 127) = 2 ^ 23 * (2 ^ k * 2 ^ (-149 : Int)) := by
      rw [← zpow_natCast, ← zpow_natCast, ← zpow_add₀ two_ne_zero, ← zpow_add₀ two_ne_zero]
      congr 1
      push_cast
      ring
    rw [magnitude_of_exponent_ne_zero hexp, hk, Nat.succ_sub_one, hscale]
    push_cast
    field_simp
    norm_num

theorem realOf_eq (p : Word) : realOf p = (if p.msb then -1 else 1) *
    (if exponent p = 0 then (fraction p : Rat) * 2 ^ (-149 : Int)
      else (1 + (fraction p : Rat) / 2 ^ 23) * 2 ^ ((exponent p : Int) - 127)) := by
  rw [realOf, div_unit, ← magnitude_div_unit]
  cases hmsb : p.msb with
  | true =>
    rw [value_of_msb hmsb, if_pos rfl]
    push_cast
    ring
  | false =>
    rw [value_of_not_msb hmsb, if_neg (by decide), one_mul]
    norm_cast

/-! ### min, max and fmod (R291 (c), (d)) -/

section

variable {a b : Word} (ha : isFinite a = true) (hb : isFinite b = true) (h : value a < value b)
include ha hb h

theorem min_of_lt : min a b = a ∧ min b a = a := by
  simp [min, ha, hb, h, h.not_gt]

theorem max_of_lt : max a b = b ∧ max b a = b := by
  simp [max, ha, hb, h, h.not_gt]

end

theorem msb_withSignOf (a p : Word) : (withSignOf a p).msb = a.msb ∨ isZero (withSignOf a p) = true := by
  rw [withSignOf]
  split
  next hzero => exact .inr hzero
  next => exact .inl (BitVec.msb_append.trans (by simp))

theorem fmod_eq {a b : Word} (ha : isFinite a = true) (hnan : isNaN b = false) (hzero : isZero b = false) :
    fmod a b = withSignOf a (Config.fmod a b) := by
  rw [fmod, ha, hnan, hzero]
  rfl

/-! ### toInt (R291 (b), R298; log 9) -/

theorem unit_dvd_value_iff (p : Word) : (unit : Int) ∣ value p ↔ magnitude p % unit = 0 := by
  rw [← Int.natAbs_dvd_natAbs, natAbs_value, Int.natAbs_natCast, Nat.dvd_iff_mod_eq_zero]

theorem isIntegral_iff {p : Word} (hfin : isFinite p = true) : isIntegral p = true ↔ (unit : Int) ∣ value p := by
  rw [isIntegral, hfin, Bool.true_and, beq_iff_eq, unit_dvd_value_iff]

theorem realOf_eq_intCast_iff (p : Word) (k : Int) : realOf p = k ↔ value p = k * unit := by
  rw [← mul_left_inj' unit_pos.ne', ← value_cast]
  norm_cast

theorem isIntegral_iff_exists {p : Word} (hfin : isFinite p = true) :
    isIntegral p = true ↔ ∃ k : Int, realOf p = k := by
  simp only [isIntegral_iff hfin, realOf_eq_intCast_iff, dvd_iff_exists_eq_mul_left]

theorem toInt_of_not_isFinite {p : Word} (h : isFinite p = false) : toInt p = none := by
  rw [toInt, h]
  rfl

theorem toInt_of_not_isIntegral {p : Word} (hfin : isFinite p = true) (h : isIntegral p = false) :
    toInt p = some (Config.ftoInt p) := by
  rw [toInt, hfin, h]
  rfl

theorem toInt_of_realOf_eq {p : Word} {k : Int} (hfin : isFinite p = true) (h : realOf p = k) :
    toInt p = if -2 ^ 31 ≤ k ∧ k ≤ 2 ^ 31 - 1 then some (wrap32 k) else none := by
  have hint : isIntegral p = true := (isIntegral_iff_exists hfin).mpr ⟨k, h⟩
  rw [toInt, hfin, hint, (realOf_eq_intCast_iff p k).mp h, Int.mul_ediv_cancel k unit_pos_int.ne']
  rfl

/-- A value of 2^24 or more is an integer: its lowest bit stands for one or more. -/
theorem isIntegral_of_large {p : Word} (hfin : isFinite p = true) (h : 2 ^ 24 ≤ |realOf p|) : isIntegral p = true := by
  have hmag : 2 ^ 24 * unit ≤ magnitude p := by
    have habs : (magnitude p : Rat) = |realOf p| * unit := by
      rw [← natAbs_value, Nat.cast_natAbs, Int.cast_abs, value_cast, abs_mul, abs_of_pos unit_pos]
    have hcast : (2 ^ 24 * unit : Rat) ≤ magnitude p := habs ▸ mul_le_mul_of_nonneg_right h unit_pos.le
    exact_mod_cast hcast
  have hfrac := fraction_lt p
  have hexp : exponent p ≠ 0 := by
    intro hexp
    rw [magnitude_of_exponent_zero hexp] at hmag
    norm_num [unit] at hmag hfrac
    omega
  have hlarge : 149 ≤ exponent p - 1 := by
    by_contra hlt
    have hpow : 2 ^ (exponent p - 1) ≤ 2 ^ 149 := Nat.pow_le_pow_right (by decide) (by omega)
    have hsmall : magnitude p < 2 ^ 24 * unit := calc
      magnitude p = (2 ^ 23 + fraction p) * 2 ^ (exponent p - 1) := magnitude_of_exponent_ne_zero hexp
      _ ≤ (2 ^ 23 + fraction p) * 2 ^ 149 := Nat.mul_le_mul_left _ hpow
      _ < 2 ^ 24 * unit := Nat.mul_lt_mul_of_pos_right (by omega) (Nat.two_pow_pos 149)
    omega
  rw [isIntegral, hfin, Bool.true_and, beq_iff_eq, magnitude_of_exponent_ne_zero hexp]
  exact Nat.mod_eq_zero_of_dvd ((Nat.pow_dvd_pow 2 hlarge).mul_left _)

/-- Outside s32 there is no result, for every value there is an integer. -/
theorem toInt_of_outside {p : Word} (hfin : isFinite p = true) (h : realOf p < -2 ^ 31 ∨ 2 ^ 31 - 1 < realOf p) :
    toInt p = none := by
  have hlarge : 2 ^ 24 ≤ |realOf p| := by
    refine le_abs.mpr (h.symm.imp (fun hgt => ?_) fun hlt => ?_)
    · linarith
    · linarith
  obtain ⟨k, hk⟩ := (isIntegral_iff_exists hfin).mp (isIntegral_of_large hfin hlarge)
  rw [toInt_of_realOf_eq hfin hk, if_neg]
  rintro ⟨hlo, hhi⟩
  have hlo : (-2 ^ 31 : Rat) ≤ realOf p := by rw [hk]; exact_mod_cast hlo
  have hhi : realOf p ≤ 2 ^ 31 - 1 := by rw [hk]; exact_mod_cast hhi
  obtain hlt | hgt := h
  · exact hlo.not_gt hlt
  · exact hhi.not_gt hgt

end Fnum

/-! ### What the float instructions do -/

theorem completesZFloat_of_finishZFloat {i : Instr} {s : State} {rd : Byte} {r : Word} {len : Nat} (h : rd.toNat < 48)
    (hi : exec i s = finishZFloat s rd r len) : CompletesZFloat i s rd r len :=
  ⟨_, hi, rfl, writesReg_setX s h r, fun hr => if_neg hr, rfl, rfl, rfl⟩

theorem exec_fdiv {s : State} {rd rs1 rs2 : Byte} (h : Regs32 s [rd, rs1, rs2]) :
    exec (.fdiv rd rs1 rs2) s =
      withFloatDivisor s rs2 (finishAny s rd (Fnum.div (s.getX rs1) (s.getX rs2)) 4) := withRegs_of h _

theorem exec_fsqrt {s : State} {rd rs1 : Byte} (ign : Byte) (h : Regs32 s [rd, rs1]) :
    exec (.fsqrt rd rs1 ign) s = if Fnum.isNeg (s.getX rs1) then .fault (.domainError s.pc)
      else finishZFloat s rd (Fnum.sqrt (s.getX rs1)) 4 := withRegs_of h _

/-- FTOI writes what `toInt` gives, and is refused where it gives nothing (43_float_memory_control.md R298). -/
theorem exec_ftoi_of_some {s : State} {rd rs1 : Byte} (ign : Byte) (h : Regs32 s [rd, rs1]) {r : Word}
    (hr : Fnum.toInt (s.getX rs1) = some r) : exec (.ftoi rd rs1 ign) s = finishAny s rd r 4 := by
  refine (withRegs_of h _).trans ?_
  rw [hr]

theorem exec_ftoi_of_none {s : State} {rd rs1 : Byte} (ign : Byte) (h : Regs32 s [rd, rs1])
    (hr : Fnum.toInt (s.getX rs1) = none) : exec (.ftoi rd rs1 ign) s = .refused .ftoiRange := by
  refine (withRegs_of h _).trans ?_
  rw [hr]
  rfl

/-! ### The statements -/

/-- Settles O39: each writes FNUM's result; FDIV and FSQRT test their operand first; isNeg is read off the fields. -/
theorem floatInstructionsComplete : Obligations.FloatInstructionsComplete := by
  refine ⟨fun s rd rs1 rs2 h => ?_, fun s rd rs1 rs2 h => ?_, fun p => ?_⟩
  · have hrd : rd.toNat < 48 := h.toNat_lt (.head _)
    exact ⟨completesAny_of_binaryAny h rfl rfl, completesAny_of_binaryAny h rfl rfl,
      completesAny_of_binaryAny h rfl rfl, completesAny_of_binaryAny h rfl rfl, completesAny_of_binaryAny h rfl rfl,
      fun _ => completesAny_of_finishAny hrd (withRegs_of (h.mono (by simp)) _),
      fun h0 h1 => completesAny_of_finishAny hrd ((exec_fdiv h).trans (withFloatDivisor_of h0 h1 _)),
      fun hzero => (exec_fdiv h).trans (withFloatDivisor_fault hzero _)⟩
  · have hrd : rd.toNat < 48 := h.toNat_lt (.head _)
    have h2 : Regs32 s [rd, rs1] := h.mono (by simp)
    exact ⟨completesZFloat_of_finishZFloat hrd (withRegs_of h _),
      fun _ => completesZFloat_of_finishZFloat hrd (withRegs_of h2 _),
      fun _ => completesZFloat_of_finishZFloat hrd (withRegs_of h2 _),
      fun ign hneg => completesZFloat_of_finishZFloat hrd
        ((exec_fsqrt ign h2).trans (if_neg (Bool.eq_false_iff.mp hneg))),
      fun ign hneg => (exec_fsqrt ign h2).trans (if_pos hneg)⟩
  · rw [Fnum.isNeg_iff, Fnum.msb_iff, Fnum.isNaN_iff, Fnum.isZero_iff_mod, Fnum.exponent_eq, Fnum.fraction_eq]

/-- Settles O40: the result, counted in units of 2^-149, is the value of the pattern, which is the only one with it. -/
theorem floatExactResults : Obligations.FloatExactResults := by
  intro a b r ha hb hr hr0
  exact ⟨Fnum.add_eq ha hr hr0 hb, Fnum.sub_eq ha hr hr0 hb, Fnum.mul_eq ha hr hr0 hb, Fnum.div_eq ha hr hr0 hb,
    Fnum.sqrt_eq ha hr hr0, fun _ => Fnum.ofInt_eq hr hr0⟩

/-- Settles O41: the value is the magnitude with its sign, which min and max compare and fmod takes over. -/
theorem floatReadingMinMaxFmod : Obligations.FloatReadingMinMaxFmod := by
  refine ⟨fun p _ => Fnum.realOf_eq p, fun a b ha hb hlt => ?_, fun a b ha hnan hzero => ?_⟩
  · obtain ⟨hmin, hmin'⟩ := Fnum.min_of_lt ha hb (Fnum.value_lt hlt)
    obtain ⟨hmax, hmax'⟩ := Fnum.max_of_lt ha hb (Fnum.value_lt hlt)
    exact ⟨hmin, hmin', hmax, hmax'⟩
  · rw [Fnum.fmod_eq ha hnan hzero]
    exact Fnum.msb_withSignOf a _

/-- Settles O42: FTOI completes where `toInt` gives a result, by whether the value is an integer and in s32. -/
theorem ftoiConverts : Obligations.FtoiConverts := by
  intro s rd rs1 ign h p
  have hrd : rd.toNat < 48 := h.toNat_lt (.head _)
  refine ⟨fun hfin k hk hlo hhi => ?_, fun hfin hnot => ?_, fun hinf => ?_, fun hfin hout => ?_⟩
  · have hint := (Fnum.toInt_of_realOf_eq hfin hk).trans (if_pos ⟨hlo, hhi⟩)
    exact completesAny_of_finishAny hrd (exec_ftoi_of_some ign h hint)
  · have hint : Fnum.isIntegral p = false :=
      Bool.eq_false_iff.mpr fun hint => ((Fnum.isIntegral_iff_exists hfin).mp hint).elim hnot
    exact ⟨_, completesAny_of_finishAny hrd (exec_ftoi_of_some ign h (Fnum.toInt_of_not_isIntegral hfin hint))⟩
  · exact exec_ftoi_of_none ign h (Fnum.toInt_of_not_isFinite hinf)
  · exact exec_ftoi_of_none ign h (Fnum.toInt_of_outside hfin hout)

end Sys2Proof.Machine

end
